-- ==== Sys2Proof/Word.lean ====
section
/-! DEFINITION. The word types of SA-RBC: the widths of spec/00_scope.md R15 to R18, as bit vectors.
Arithmetic on a `uN` value is `BitVec` arithmetic, which is modulo `2^N` (R18).
A comparison of the spec's `<`, `>=` kind is written on `toNat`, since it compares natural numbers (R18). -/

namespace Sys2Proof

/-- One byte of a packet, or an 8-bit field (R15). -/
abbrev Byte := BitVec 8

/-- A `u16`, or the 16-bit pattern of an `i16` (R15, R17). -/
abbrev U16 := BitVec 16

/-- A `u32`: a cursor, a statistics counter, a register-view value (R16, R59). -/
abbrev U32 := BitVec 32

/-- A request word or a response word: one whole 64-bit transaction (R83, R95). -/
abbrev Word64 := BitVec 64

end Sys2Proof
end

