-- ==== Sys2Proof/Config.lean ====
section
/-! DEFINITION. The configuration record of one instance (spec/00_scope.md R7 to R14) and the model's free values.
Every rule is written over the record, never over the numbers of CFG-D. -/

namespace Sys2Proof

/-- The parameters an instance is built with (R7 to R11).
The proofs carry the legal ranges, so an illegal instance cannot be written down (assumption 11). -/
structure Config where
  /-- `k` in `CAP = 2^k` (R7). -/
  capLog : Nat
  /-- `SPP`, samples per packet (R8). -/
  spp : Nat
  /-- `THRESH`, the burst threshold in samples (R9). -/
  thresh : Nat
  /-- `MAXP`, the most packets of one burst (R10). -/
  maxp : Nat
  /-- `OVH`, transport overhead in bytes (R11). -/
  ovh : Nat
  capLog_le : capLog ≤ 31
  spp_pos : 1 ≤ spp
  spp_le : spp ≤ 6552
  thresh_pos : 1 ≤ thresh
  thresh_le : thresh ≤ 2 ^ capLog
  maxp_pos : 1 ≤ maxp
  maxp_le : maxp ≤ 65535
  ovh_le : ovh ≤ 255
deriving DecidableEq, Repr

/-- `CAP`, the ring buffer's capacity in slots (R7). -/
def Config.cap (c : Config) : Nat := 2 ^ c.capLog

/-- `MASK = CAP - 1` (R7), as the 32-bit value a cursor is masked with (R104). -/
def Config.mask (c : Config) : U32 := BitVec.ofNat 32 (c.cap - 1)

/-- `PKT_BYTES = 1 + 10*SPP + 2` (R12). -/
def Config.pktBytes (c : Config) : Nat := 1 + 10 * c.spp + 2

/-- CFG-D, the default configuration (R7 to R11, glossary of spec/00_scope.md). -/
def Config.cfgD : Config :=
  { capLog := 10, spp := 24, thresh := 1024, maxp := 42, ovh := 3,
    capLog_le := by decide, spp_pos := by decide, spp_le := by decide, thresh_pos := by decide,
    thresh_le := by decide, maxp_pos := by decide, maxp_le := by decide, ovh_le := by decide }

/-- CFG-S, the small test configuration (glossary of spec/00_scope.md). -/
def Config.cfgS : Config :=
  { capLog := 3, spp := 2, thresh := 4, maxp := 2, ovh := 3,
    capLog_le := by decide, spp_pos := by decide, spp_le := by decide, thresh_pos := by decide,
    thresh_le := by decide, maxp_pos := by decide, maxp_le := by decide, ovh_le := by decide }

/-- FREE VALUE. The content of a byte of a slot that no push has reached since reset number `epoch`.
The spec leaves it unspecified (R24, R64, R111; spec/93 I1: `any value`), see assumption 7. -/
opaque Config.unwrittenByte : (epoch : Nat) → (address : Nat) → Byte

/-- OPEN parameter `TIME_UNIT`: the duration of one count of `time_now` (R13). No rule reads it (assumption 12). -/
opaque Config.timeUnit : Nat

/-- OPEN parameter `PACE_DELAY`: the platform timer's inter-packet delay (R135). No rule reads it (assumption 12). -/
opaque Config.paceDelay : Nat

/-- `TICK_HZ`: the rate of the external sample-clock strobe (R14, R117). Timing only: no rule reads it. -/
def Config.tickHz : Nat := 1000

end Sys2Proof
end

