-- ==== Sys2Proof/Syntax.lean ====
section
/-! DEFINITION. The request words of SA-RBC as terms: one constructor per row of spec/opcode_table.json (R85).
Operands have the widths of the formats of spec/30_encoding.md R86 to R92 and are moved as bit patterns (R93). -/

namespace Sys2Proof

/-- A decoded request word (R85). -/
inductive Instr where
  /-- GET_MODE, format F0 (R149). -/
  | getMode
  /-- SET_MODE mv, p, format FM: the requested mode byte `MV` and `power_asserted` `P` (R89, R150). -/
  | setMode (mv : Byte) (p : Bool)
  /-- SET_POWER b, format FB (R88, R151). -/
  | setPower (b : Bool)
  /-- READ_REG idx, format FR (R92, R159). -/
  | readReg (idx : Byte)
  /-- LINK_CONNECT, format F0 (R155). -/
  | linkConnect
  /-- LINK_DISCONNECT, format F0 (R156). -/
  | linkDisconnect
  /-- LINK_SUBSCRIBE sel, en, format FL: `sel` false is the packet stream, true the heartbeat value (R90, R157). -/
  | linkSubscribe (sel en : Bool)
  /-- LINK_UNIT n, format FU (R91, R158). -/
  | linkUnit (n : U16)
  /-- SENSOR_OK x, y, z, format FS: three i16 axis patterns (R87, R120). -/
  | sensorOk (x y z : U16)
  /-- SENSOR_ERR, format F0 (R123). -/
  | sensorErr
  /-- TX_OK, format F0 (R132). -/
  | txOk
  /-- TX_FAIL, format F0 (R133). -/
  | txFail
  /-- TICK, format F0 (R115). -/
  | tick
  /-- PACE_DONE, format F0 (R135). -/
  | paceDone
deriving DecidableEq, Repr

end Sys2Proof
end

