-- ==== Sys2Proof/WellFormed.lean ====
section
/-! DEFINITION. Well-formedness: the three checks (a), (b), (c) of spec/30_encoding.md R94 on a request word,
over the opcode map of R85 and the formats of R86 to R92.
A term of type `Instr` carries its operands' widths in its types, so every term is well formed. -/

namespace Sys2Proof

/-- The request formats (R86 to R92). -/
inductive Format where
  /-- F0: no operand (R86). -/
  | f0
  /-- FS: three 16-bit axes (R87). -/
  | fs
  /-- FB: one Boolean in bit 0 (R88). -/
  | fb
  /-- FM: mode byte in 7:0, power in bit 8 (R89). -/
  | fm
  /-- FL: enable in bit 0, select in bit 8 (R90). -/
  | fl
  /-- FU: unit size in 15:0 (R91). -/
  | fu
  /-- FR: register index in 7:0 (R92). -/
  | fr
deriving DecidableEq, Repr

/-- The PAY bits a format requires to be 0: every bit it does not name as a field (R86 to R92). -/
def Format.unusedPay : Format → BitVec 48
  | .f0 => 0xFFFFFFFFFFFF
  | .fs => 0x000000000000
  | .fb => 0xFFFFFFFFFFFE
  | .fm => 0xFFFFFFFFFE00
  | .fl => 0xFFFFFFFFFEFE
  | .fu => 0xFFFFFFFF0000
  | .fr => 0xFFFFFFFFFF00

/-- The defined values of the OPC field, one per row of R85's table. -/
inductive Opcode where
  | getMode | setMode | setPower | readReg
  | linkConnect | linkDisconnect | linkSubscribe | linkUnit
  | sensorOk | sensorErr | txOk | txFail
  | tick | paceDone
deriving DecidableEq, Repr

/-- One row of the opcode map (R85). -/
structure OpcodeRow where
  opc : Byte
  op : Opcode
  format : Format
deriving DecidableEq, Repr

/-- The opcode map (R85). -/
def opcodeMap : List OpcodeRow :=
  [ ⟨0x01, .getMode, .f0⟩,
    ⟨0x02, .setMode, .fm⟩,
    ⟨0x03, .setPower, .fb⟩,
    ⟨0x04, .readReg, .fr⟩,
    ⟨0x10, .linkConnect, .f0⟩,
    ⟨0x11, .linkDisconnect, .f0⟩,
    ⟨0x12, .linkSubscribe, .fl⟩,
    ⟨0x13, .linkUnit, .fu⟩,
    ⟨0x20, .sensorOk, .fs⟩,
    ⟨0x21, .sensorErr, .f0⟩,
    ⟨0x22, .txOk, .f0⟩,
    ⟨0x23, .txFail, .f0⟩,
    ⟨0x30, .tick, .f0⟩,
    ⟨0x31, .paceDone, .f0⟩ ]

/-- The row of an OPC value, `none` where the value is reserved (R85). -/
def opcodeRow (opc : Byte) : Option OpcodeRow := opcodeMap.find? fun r => r.opc == opc

/-- `OPC`, bits 63:56 of a request word (R83). -/
def opcField (w : Word64) : Byte := w.extractLsb' 56 8

/-- `RSV`, bits 55:48 of a request word (R83). -/
def rsvField (w : Word64) : Byte := w.extractLsb' 48 8

/-- `PAY`, bits 47:0 of a request word (R83). -/
def payField (w : Word64) : BitVec 48 := w.extractLsb' 0 48

/-- R94 (a): the OPC value is in the table. -/
def opcDefined (w : Word64) : Bool := (opcodeRow (opcField w)).isSome

/-- R94 (b): the reserved field is 0. -/
def rsvClear (w : Word64) : Bool := rsvField w == 0

/-- R94 (c): every PAY bit that the word's format requires to be 0 is 0. -/
def payClear (w : Word64) : Bool :=
  match opcodeRow (opcField w) with
  | none => true
  | some r => payField w &&& r.format.unusedPay == 0

/-- A word that is not ILLEGAL (R94). -/
def requestWellFormed (w : Word64) : Bool := opcDefined w && rsvClear w && payClear w

/-- Every term of `Instr` is well formed: MV, IDX and UNITV take every value of their widths (R89, R91, R92, R93),
and the axes, P, B, EN and SEL fill their fields (R87, R88, R90). -/
def Instr.wellFormed : Instr → Bool
  | .getMode | .linkConnect | .linkDisconnect | .sensorErr | .txOk | .txFail | .tick | .paceDone => true
  | .setMode _ _ | .setPower _ | .readReg _ | .linkSubscribe _ _ | .linkUnit _ | .sensorOk _ _ _ => true

end Sys2Proof
end

