-- ==== Sys2Proof/Decode.lean ====
section
/-! DEFINITION. The request decoder (spec/30_encoding.md R83 to R94), total on every 64-bit word and rejecting by name,
then the encoder written from the same formats (R86 to R92, R101), then the byte forms of R75. -/

namespace Sys2Proof

/-- Why a request word is ILLEGAL (R94), or why bytes are no request word (R77). -/
inductive DecodeError where
  /-- R94 (a): OPC is reserved. -/
  | reservedOpcode
  /-- R94 (b): RSV is not 0. -/
  | reservedField
  /-- R94 (c): a PAY bit outside the format's fields is 1. -/
  | reservedPayload
  /-- Fewer than 8 bytes: not a transaction of SA-RBC (R77, R100). -/
  | partialWord
deriving DecidableEq, Repr

/-- What the decoder answers. -/
inductive Decoded where
  | instr (i : Instr)
  | illegal (why : DecodeError)
deriving DecidableEq, Repr

/-- The instruction, or `none` for an illegal word. -/
def Decoded.toOption : Decoded → Option Instr
  | .instr i => some i
  | .illegal _ => none

/-! ## Operand fields of PAY (R86 to R92) -/

/-- `X`, PAY[15:0] (R87). -/
def payX (p : BitVec 48) : U16 := p.extractLsb' 0 16

/-- `Y`, PAY[31:16] (R87). -/
def payY (p : BitVec 48) : U16 := p.extractLsb' 16 16

/-- `Z`, PAY[47:32] (R87). -/
def payZ (p : BitVec 48) : U16 := p.extractLsb' 32 16

/-- `MV` or `IDX`, PAY[7:0] (R89, R92). -/
def payByte (p : BitVec 48) : Byte := p.extractLsb' 0 8

/-- `UNITV`, PAY[15:0] (R91). -/
def payUnit (p : BitVec 48) : U16 := p.extractLsb' 0 16

/-- `B` or `EN`, PAY[0] (R88, R90). -/
def payBit0 (p : BitVec 48) : Bool := p.getLsbD 0

/-- `P` or `SEL`, PAY[8] (R89, R90). -/
def payBit8 (p : BitVec 48) : Bool := p.getLsbD 8

/-- The instruction of an opcode with its operands taken from PAY (R85 to R93). -/
def operandsOf (op : Opcode) (p : BitVec 48) : Instr :=
  match op with
  | .getMode => .getMode
  | .setMode => .setMode (payByte p) (payBit8 p)
  | .setPower => .setPower (payBit0 p)
  | .readReg => .readReg (payByte p)
  | .linkConnect => .linkConnect
  | .linkDisconnect => .linkDisconnect
  | .linkSubscribe => .linkSubscribe (payBit8 p) (payBit0 p)
  | .linkUnit => .linkUnit (payUnit p)
  | .sensorOk => .sensorOk (payX p) (payY p) (payZ p)
  | .sensorErr => .sensorErr
  | .txOk => .txOk
  | .txFail => .txFail
  | .tick => .tick
  | .paceDone => .paceDone

/-- The decoder: a total function of the 64 bits alone (R84), with R94's checks in the order (a), (b), (c). -/
def decode (w : Word64) : Decoded :=
  match opcodeRow (opcField w) with
  | none => .illegal .reservedOpcode
  | some r =>
    if rsvField w ≠ 0 then .illegal .reservedField
    else if payField w &&& r.format.unusedPay ≠ 0 then .illegal .reservedPayload
    else .instr (operandsOf r.op (payField w))

/-! ## Encoder -/

/-- The opcode of an instruction (R85). -/
def Instr.opcode : Instr → Byte
  | .getMode => 0x01
  | .setMode _ _ => 0x02
  | .setPower _ => 0x03
  | .readReg _ => 0x04
  | .linkConnect => 0x10
  | .linkDisconnect => 0x11
  | .linkSubscribe _ _ => 0x12
  | .linkUnit _ => 0x13
  | .sensorOk _ _ _ => 0x20
  | .sensorErr => 0x21
  | .txOk => 0x22
  | .txFail => 0x23
  | .tick => 0x30
  | .paceDone => 0x31

/-- The PAY field of an instruction, high fields first (R86 to R92). -/
def Instr.payload : Instr → BitVec 48
  | .getMode | .linkConnect | .linkDisconnect | .sensorErr | .txOk | .txFail | .tick | .paceDone => 0
  | .setMode mv p => 0#39 ++ BitVec.ofBool p ++ mv
  | .setPower b => 0#47 ++ BitVec.ofBool b
  | .readReg idx => 0#40 ++ idx
  | .linkSubscribe sel en => 0#39 ++ BitVec.ofBool sel ++ 0#7 ++ BitVec.ofBool en
  | .linkUnit n => 0#32 ++ n
  | .sensorOk x y z => z ++ y ++ x

/-- The request word of an instruction: `{OPC, RSV = 0, PAY}` (R83, R101). -/
def encode (i : Instr) : Word64 := i.opcode ++ 0#8 ++ i.payload

/-! ## Request words as bytes (R75) -/

/-- A word carried as bytes is little-endian, least significant byte first (R75). -/
def bytesOfWord (w : Word64) : List Byte :=
  [w.extractLsb' 0 8, w.extractLsb' 8 8, w.extractLsb' 16 8, w.extractLsb' 24 8,
   w.extractLsb' 32 8, w.extractLsb' 40 8, w.extractLsb' 48 8, w.extractLsb' 56 8]

/-- Decode the first request word of a byte stream and return the bytes after it.
A partial word is not a transaction (R77), so fewer than 8 bytes are rejected by name. -/
def decodeBytes : List Byte → Decoded × List Byte
  | b0 :: b1 :: b2 :: b3 :: b4 :: b5 :: b6 :: b7 :: rest =>
    (decode (b7 ++ b6 ++ b5 ++ b4 ++ b3 ++ b2 ++ b1 ++ b0), rest)
  | bs => (.illegal .partialWord, bs)

/-- The word whose bits are `w` numbered as spec/opcode_table.json numbers them, its bits from `nbits` up being 0. -/
def tableWord (nbits w : Nat) : Word64 := BitVec.ofNat 64 (w % 2 ^ nbits)

/-- The instruction the decoder reads from a table row's word of `nbits` bits (at most the 64 of R100). -/
def decodeTableWord (nbits w : Nat) : Option Instr :=
  if 64 < nbits then none else (decode (tableWord nbits w)).toOption

end Sys2Proof
end

