-- ==== Sys2Proof/Machine/State.lean ====
section
/-! DEFINITION. The state of SA-RBC: every element of spec/10_state.md (R21 to R61), as plain data,
with the ports of spec/30_encoding.md R82 as they stood at the last step, and the reset state (R64, R180).
The model's own fields are named as such; INVENTORY.md lists each with its rule. -/

namespace Sys2Proof.Machine

/-- `PSTATE`, one bit (R31). -/
inductive PState where
  /-- `P_IDLE` = 0, waiting for a tick. -/
  | idle
  /-- `P_WAIT` = 1, one sensor read outstanding. -/
  | wait
deriving DecidableEq, Repr

/-- `BSTATE`, two bits (R34). -/
inductive BState where
  /-- `B_IDLE` = 0, waiting for a burst-ready signal. -/
  | idle
  /-- `B_PKT` = 1, about to build packet `PKT_I`. -/
  | pkt
  /-- `B_TXW` = 2, waiting for the transport's result. -/
  | txw
  /-- `B_PACE` = 3, waiting out the inter-packet delay. -/
  | pace
deriving DecidableEq, Repr

/-- `MODE`, one bit (R43, R148). -/
inductive Mode where
  /-- `BURST` = 0. -/
  | burst
  /-- `CONTINUOUS` = 1. -/
  | continuous
deriving DecidableEq, Repr

/-- The causes `raise Fatal` is called with (R162). -/
inductive FatalCause where
  /-- TICK_OVERFLOW, raised by TICK (R163). -/
  | tickOverflow
  /-- BURST_SIGNAL_OVERFLOW, raised by `SignalBurst` (R164). -/
  | burstSignalOverflow
  /-- CURSOR_INVARIANT, raised by `EnqueueOrDrop` and `Advance` (R165). -/
  | cursorInvariant
deriving DecidableEq, Repr

/-- The response codes (R96). -/
inductive RespCode where
  | ok | permDenied | invalidValue | illegal | unexpected | halted
deriving DecidableEq, Repr

/-- The output transactions (R99). -/
inductive Output where
  /-- SENSOR_REQ: one sensor read requested. -/
  | sensorReq
  /-- TX_REQ: one packet handed to the transport, byte 0 first. -/
  | txReq (bytes : List Byte)
  /-- PACE_REQ: start one inter-packet delay. -/
  | paceReq
deriving DecidableEq, Repr

/-- The steps a unit takes without a request word (R98). -/
inductive InternalStep where
  /-- PRODUCER_FETCH (R119). -/
  | producerFetch
  /-- BURST_WAKE (R127). -/
  | burstWake
  /-- BURST_PACKET (R131). -/
  | burstPacket
deriving DecidableEq, Repr

/-- One choice of what happens next: SA-RBC's steps are taken in any order (R20, R66, R172),
and `now` is what the `time_now` bus carries at that step, under no law (R45). -/
inductive Stimulus where
  /-- A request word arrives on `req` (R82). -/
  | request (word : Word64) (now : U16)
  /-- A unit takes an internal step, if it is enabled (R98). -/
  | internal (step : InternalStep) (now : U16)
  /-- `rst` is asserted (R180). -/
  | reset
deriving DecidableEq, Repr

/-- A sample record (R25). Its 80-bit packing is the spec's choice, and a model may store the five fields instead. -/
structure Sample where
  /-- `rec[15:0]`. -/
  sequence : U16
  /-- `rec[31:16]`. -/
  relativeTimestamp : U16
  /-- `rec[47:32]`, an i16 pattern. -/
  axisX : U16
  /-- `rec[63:48]`, an i16 pattern. -/
  axisY : U16
  /-- `rec[79:64]`, an i16 pattern. -/
  axisZ : U16
deriving DecidableEq, Repr

/-- Memory: the bytes of the slot array that have been written since reset, by address.
Slot `i` is the ten bytes `10*i` to `10*i + 9` (assumption 6).
An unlisted byte has not been written since reset and reads as no value (R24, assumption 7). -/
abbrev Memory := List Host.Cell

/-- The canonical form: addresses strictly rising.
An unlisted address reads as no value, so no entry equals what an unlisted address reads as. -/
abbrev Memory.wf (m : Memory) : Prop := m.Pairwise fun c d => c.1 < d.1

/-- The state of one instance. -/
structure State where
  /-- MODEL: the configuration the instance is built with, the value of the configuration registers (R58).
  No step and no reset changes it (R58, R180; assumption 1). -/
  cfg : Config
  /-- `SLOT[0..CAP-1]` (R24), as written bytes. -/
  mem : Memory
  /-- `WC`, write cursor (R26). -/
  wc : U32
  /-- `RC`, read cursor (R27). -/
  rc : U32
  /-- `TS_SLOT` (R29). -/
  tsSlot : U16
  /-- `TICK_PEND` (R30). -/
  tickPend : U16
  /-- `PSTATE` (R31). -/
  pstate : PState
  /-- `TS_SNAP` (R32). -/
  tsSnap : U16
  /-- `SEQ` (R33). -/
  seq : U16
  /-- `BSTATE` (R34). -/
  bstate : BState
  /-- `BURST_PEND` (R35). -/
  burstPend : U16
  /-- `PKT_I` (R36). -/
  pktI : U16
  /-- `PKT_N` (R36). -/
  pktN : U16
  /-- `BURST_ID` (R37). -/
  burstId : Byte
  /-- `WSTART` (R38). -/
  wstart : U16
  /-- `CONN` (R39). -/
  conn : Bool
  /-- `SUB_DATA` (R40). -/
  subData : Bool
  /-- `SUB_HB` (R41). -/
  subHb : Bool
  /-- `UNIT` (R42). -/
  unit : U16
  /-- `MODE` (R43). -/
  mode : Mode
  /-- `PWR` (R44). -/
  pwr : Bool
  /-- `FATAL` (R46). -/
  fatal : Bool
  /-- `FAULT_CAUSE` (R47). -/
  faultCause : Byte
  /-- `PROTO_ERR` (R48). -/
  protoErr : Bool
  /-- `TOTAL_CNT` (R49). -/
  totalCnt : U32
  /-- `OVERFLOW_CNT` (R50). -/
  overflowCnt : U32
  /-- `READ_FAIL_CNT` (R51). -/
  readFailCnt : U32
  /-- `DRAIN_DROP_CNT` (R52). -/
  drainDropCnt : U32
  /-- `NOTREADY_CNT` (R53). -/
  notReadyCnt : U32
  /-- `UNIT_SKIP_CNT` (R54). -/
  unitSkipCnt : U32
  /-- `TX_OK_CNT` (R55). -/
  txOkCnt : U32
  /-- `TX_FAIL_CNT` (R56). -/
  txFailCnt : U32
  /-- `ABORT_CNT` (R57). -/
  abortCnt : U32
  /-- PORT `resp`: the response word the last step produced (R95), none if it handled no request word (assumption 5). -/
  resp : Option Word64
  /-- PORT `sensor_req`, `tx_req`, `pace_req`: the output transaction the last step emitted (R99; assumption 5). -/
  out : Option Output
  /-- PORT `time_now`: what the input bus carries at the current step, a free input (R45; assumption 4). -/
  timeNow : U16
  /-- MODEL: what happens next, oldest first: the environment's words, the interleaving, the resets (R66; assumption 3). -/
  schedule : List Stimulus
  /-- MODEL: how many times `rst` has been asserted, the argument of the free slot contents (assumption 7). -/
  epoch : Nat
deriving DecidableEq, Repr

/-- The model's faults: there is none.
SA-RBC's own fatal state (R168) is a next state in which `FATAL = 1`, and no rule leaves a step without an outcome. -/
inductive Fault
deriving DecidableEq, Repr

/-- The model's refusals. -/
inductive Refusal where
  /-- Raised by an arm of `exec` that has no meaning yet; safe, since the run stops. No arm of this model raises it. -/
  | notModelled (mnemonic : String)
deriving DecidableEq, Repr

/-- The three outcomes of a step of this machine. -/
abbrev StepResult := Host.Outcome State Fault Refusal

/-- The outcome of a procedure that can `raise Fatal` (R19): the state it leaves, or the cause,
in which case every write it made is discarded (R168). -/
inductive Attempt where
  | done (t : State)
  | fatal (c : FatalCause)
deriving DecidableEq, Repr

/-- The reset values of R64 and R180 for an instance built with `c`: slots unspecified, every register 0, idle or not ready.
The ports carry nothing, nothing is scheduled, and `rst` has been asserted no further time (assumption 10). -/
def State.resetOf (c : Config) : State :=
  { cfg := c, mem := [], wc := 0, rc := 0, tsSlot := 0, tickPend := 0, pstate := .idle, tsSnap := 0, seq := 0,
    bstate := .idle, burstPend := 0, pktI := 0, pktN := 0, burstId := 0, wstart := 0,
    conn := false, subData := false, subHb := false, unit := 0, mode := .burst, pwr := false,
    fatal := false, faultCause := 0, protoErr := false,
    totalCnt := 0, overflowCnt := 0, readFailCnt := 0, drainDropCnt := 0, notReadyCnt := 0, unitSkipCnt := 0,
    txOkCnt := 0, txFailCnt := 0, abortCnt := 0,
    resp := none, out := none, timeNow := 0, schedule := [], epoch := 0 }

/-- The machine right after reset, in the default configuration CFG-D (R7 to R11, R64, R180). -/
def State.reset : State := State.resetOf Config.cfgD

end Sys2Proof.Machine
end

