-- ==== Sys2Proof/Machine/Ops.lean ====
section
/-! DEFINITION. The shared operations: memory and slots (spec/20_memory.md R65, R76), the ring buffer
(spec/40_ring_buffer.md), responses and outputs (spec/30_encoding.md R95, R99), entering the fatal state
(spec/60_exceptions.md R168), refusing while fatal (R169), unexpected events (R166), and `rst` (spec/70 R180). -/

namespace Sys2Proof.Machine

/-! ## Memory -/

/-- The byte at an address, `none` where nothing has been written since reset. -/
def Memory.read? : Memory → Nat → Option Byte
  | [], _ => none
  | (a, b) :: m, x => if x = a then some b else Memory.read? m x

/-- Write one byte, keeping the canonical form. -/
def Memory.write : Memory → Nat → Byte → Memory
  | [], x, v => [(x, v)]
  | (a, b) :: m, x, v =>
    if x < a then (x, v) :: (a, b) :: m
    else if x = a then (x, v) :: m
    else (a, b) :: Memory.write m x v

/-- Write consecutive bytes from an address up. -/
def Memory.writeBytes (m : Memory) (x : Nat) : List Byte → Memory
  | [] => m
  | v :: vs => Memory.writeBytes (m.write x v) (x + 1) vs

/-- The low byte of a 16-bit field, which comes first in every multi-byte field (R74). -/
def loByte (v : U16) : Byte := v.extractLsb' 0 8

/-- The high byte of a 16-bit field (R74). -/
def hiByte (v : U16) : Byte := v.extractLsb' 8 8

/-- The ten bytes of a record in the order of R25, least significant first, which is the wire order of R143. -/
def Sample.bytes (r : Sample) : List Byte :=
  [loByte r.sequence, hiByte r.sequence, loByte r.relativeTimestamp, hiByte r.relativeTimestamp,
   loByte r.axisX, hiByte r.axisX, loByte r.axisY, hiByte r.axisY, loByte r.axisZ, hiByte r.axisZ]

/-- The 80-bit packing of a record (R25). -/
def Sample.pack (r : Sample) : BitVec 80 :=
  r.axisZ ++ r.axisY ++ r.axisX ++ r.relativeTimestamp ++ r.sequence

/-- The record whose bytes are `f 0` to `f 9`. -/
def Sample.ofBytes (f : Nat → Byte) : Sample :=
  { sequence := f 1 ++ f 0, relativeTimestamp := f 3 ++ f 2,
    axisX := f 5 ++ f 4, axisY := f 7 ++ f 6, axisZ := f 9 ++ f 8 }

/-- The address of the first byte of slot `i`: ten bytes a slot (assumption 6). -/
def slotAddr (i : Nat) : Nat := 10 * i

/-- The content of a byte of the slot array: a byte not written since reset is a free value (R24, R111; assumption 7). -/
def State.slotByte (s : State) (x : Nat) : Byte :=
  (s.mem.read? x).getD (Config.unwrittenByte s.epoch x)

/-- `SlotRead(i)` (R19): the whole record in slot `i` (R76). -/
def State.slotRead (s : State) (i : Nat) : Sample :=
  Sample.ofBytes fun k => s.slotByte (slotAddr i + k)

/-- `SlotWrite(i, rec)` (R19): the whole record into slot `i` (R76). -/
def State.slotWrite (s : State) (i : Nat) (r : Sample) : State :=
  { s with mem := s.mem.writeBytes (slotAddr i) r.bytes }

/-! ## Ring buffer -/

/-- `Index(c) = c & MASK` (R104). -/
def Config.index (c : Config) (cursor : U32) : Nat := (cursor &&& c.mask).toNat

/-- `OCC = WC -_32 RC` (R28, R105). -/
def State.occ (s : State) : U32 := s.wc - s.rc

/-- `Push(rec)` (R107). -/
def State.push (s : State) (r : Sample) : State :=
  { s.slotWrite (Config.index s.cfg s.wc) r with wc := s.wc + 1, totalCnt := s.totalCnt + 1 }

/-- `Advance(k)` (R112): consumes `k` samples, or CURSOR_INVARIANT (R165). -/
def State.advance (s : State) (k : Nat) : Attempt :=
  if k > s.occ.toNat then .fatal .cursorInvariant
  else .done { s with rc := s.rc + BitVec.ofNat 32 k }

/-- `DrainAll()` (R113). -/
def State.drainAll (s : State) : State :=
  { s with drainDropCnt := s.drainDropCnt + s.occ, rc := s.wc }

/-- `Slice(base, n)` (R114): the records of `n` consecutive logical samples, in ascending order. -/
def State.slice (s : State) (base : U32) (n : Nat) : List Sample :=
  (List.range n).map fun j => s.slotRead (Config.index s.cfg (base + BitVec.ofNat 32 j))

/-- Is logical sample `c` live, that is unread (R111): `c -_32 RC < OCC`? -/
def State.live (s : State) (c : U32) : Bool := decide ((c - s.rc).toNat < s.occ.toNat)

/-! ## Responses and outputs -/

/-- The CODE of a response (R96). -/
def RespCode.code : RespCode → Byte
  | .ok => 0x00
  | .permDenied => 0x01
  | .invalidValue => 0x02
  | .illegal => 0x03
  | .unexpected => 0x04
  | .halted => 0x05

/-- The response word: DATA in 63:32, 0 in 31:8, CODE in 7:0 (R95). -/
def responseWord (c : RespCode) (data : U32) : Word64 := data ++ 0#24 ++ c.code

/-- `Respond(code, data)` (R19, R95). -/
def State.respond (s : State) (c : RespCode) (data : U32) : State :=
  { s with resp := some (responseWord c data) }

/-- `Emit …` (R19, R99). -/
def State.emit (s : State) (o : Output) : State := { s with out := some o }

/-! ## The fatal state -/

/-- The `FAULT_CAUSE` code of a cause (R162). -/
def FatalCause.code : FatalCause → Byte
  | .tickOverflow => 0x01
  | .burstSignalOverflow => 0x02
  | .cursorInvariant => 0x03

/-- `raise Fatal(cause)` (R168), applied to the state before the step: FATAL and FAULT_CAUSE change, nothing else. -/
def State.raiseFatal (s : State) (c : FatalCause) : State :=
  { s with fatal := true, faultCause := c.code }

/-- The end of a request step that can raise: respond `OK, 0`, or enter the fatal state from the state before the step
and respond `HALTED, cause` (R95, R168). -/
def Attempt.orFatal (a : Attempt) (before : State) : State :=
  match a with
  | .done t => t.respond .ok 0
  | .fatal c => (before.raiseFatal c).respond .halted (c.code.setWidth 32)

/-- The end of an internal step that can raise: it answers no response word (R168). -/
def Attempt.orFatalInternal (a : Attempt) (before : State) : State :=
  match a with
  | .done t => t
  | .fatal c => before.raiseFatal c

/-- A request other than READ_REG and GET_MODE while `FATAL = 1` is answered `HALTED, FAULT_CAUSE`
and changes nothing (R97, R169); otherwise the opcode's rule is performed. -/
def State.unlessHalted (s : State) (perform : State) : State :=
  if s.fatal then s.respond .halted (s.faultCause.setWidth 32) else perform

/-- `UnexpectedEvent()` (R166). -/
def State.unexpectedEvent (s : State) : State :=
  { s with protoErr := true }.respond .unexpected 0

/-- The answer to an ILLEGAL word, also while fatal (R94, R97). -/
def State.answerIllegal (s : State) : State := s.respond .illegal 0

/-- The return from the fatal state, and the only one (R170): `rst` puts every element to its reset value at once,
keeps the configuration, produces no response and emits nothing (R180).
The bus and what the environment does next are not SA-RBC's, so they stay (assumption 17). -/
def State.assertReset (s : State) : State :=
  { State.resetOf s.cfg with timeNow := s.timeNow, schedule := s.schedule, epoch := s.epoch + 1 }

/-- The start of a step: the rest of the schedule remains, the bus carries its value for this step,
and the output ports carry nothing yet (R82, R95, R99; assumptions 3 to 5). -/
def State.beginStep (s : State) (now : U16) (rest : List Stimulus) : State :=
  { s with timeNow := now, schedule := rest, resp := none, out := none }

end Sys2Proof.Machine
end

