-- ==== Sys2Proof/Machine/Checksum.lean ====
section
/-! DEFINITION. The CRC attachment stage and packet framing (spec/44_checksum_framing.md R141 to R145). -/

namespace Sys2Proof.Machine

/-- One of the eight shifts of `CRC16`: the polynomial 0x1021 is added where bit 15 was 1 (R144). -/
def crcShift (c : U16) : U16 := if c.msb then (c <<< 1) ^^^ 0x1021 else c <<< 1

/-- `crcShift` repeated. -/
def crcShifts : Nat → U16 → U16
  | 0, c => c
  | n + 1, c => crcShifts n (crcShift c)

/-- One byte of `CRC16`: the byte enters at the high end, then eight shifts (R144). -/
def crcByte (c : U16) (b : Byte) : U16 := crcShifts 8 (c ^^^ (b.setWidth 16 <<< 8))

/-- The running CRC over bytes in offset order. -/
def crcFrom (c : U16) (bytes : List Byte) : U16 := bytes.foldl crcByte c

/-- `CRC16(bytes)`, from the initial value 0xFFFF, with no reflection and no final XOR (R144). -/
def crc16 (bytes : List Byte) : U16 := crcFrom 0xFFFF bytes

/-- `Ser(rec)`: ten bytes, each field little-endian (R74, R143). -/
def Sample.serialise (r : Sample) : List Byte := r.bytes

/-- The bytes the CRC covers: the burst id, then the records in order (R142, R145). -/
def packetBody (id : Byte) (recs : List Sample) : List Byte := id :: recs.flatMap Sample.serialise

/-- A packet: the body, then its CRC low byte first (R141, R142, R145). -/
def frame (body : List Byte) : List Byte := body ++ [loByte (crc16 body), hiByte (crc16 body)]

/-- `BuildPacket(base, id)` (R142). -/
def State.buildPacket (s : State) (base : U32) (id : Byte) : List Byte :=
  frame (packetBody id (s.slice base s.cfg.spp))

end Sys2Proof.Machine
end

