-- ==== Sys2Proof/Machine/Flags.lean ====
section
/-! DEFINITION. The status flags and every value computed from them: SA-RBC has no condition codes (spec/10_state.md R62),
so this file holds the encodings of the state bits (R31, R34, R43), STATUS and PKTPOS (R60, R61),
the two transmission gates (spec/43 R128, R129) and the enabling conditions of the internal steps (spec/30 R98). -/

namespace Sys2Proof.Machine

/-- The bit of `PSTATE` (R31). -/
def PState.bit : PState → BitVec 1
  | .idle => 0
  | .wait => 1

/-- The two bits of `BSTATE` (R34). -/
def BState.bits : BState → BitVec 2
  | .idle => 0
  | .pkt => 1
  | .txw => 2
  | .pace => 3

/-- The bit of `MODE` (R43). -/
def Mode.bit : Mode → BitVec 1
  | .burst => 0
  | .continuous => 1

/-- `zext_32(MODE)`, the DATA of GET_MODE, SET_MODE and SET_POWER (R149 to R151). -/
def Mode.word (m : Mode) : U32 := m.bit.setWidth 32

/-- STATUS (R60), bit 31 first: reserved bits read 0. -/
def State.status (s : State) : U32 :=
  0#18 ++ s.bstate.bits ++ 0#3 ++ s.pstate.bit ++ 0#1 ++ BitVec.ofBool s.protoErr ++ BitVec.ofBool s.fatal
    ++ BitVec.ofBool s.subHb ++ BitVec.ofBool s.subData ++ BitVec.ofBool s.conn ++ BitVec.ofBool s.pwr ++ s.mode.bit

/-- PKTPOS = `{PKT_N, PKT_I}` (R61). -/
def State.pktPos (s : State) : U32 := s.pktN ++ s.pktI

/-- The link gate passes: subscribed and a peer is active (R128). -/
def State.linkReady (s : State) : Bool := s.subData && s.conn

/-- The unit gate passes: `UNIT >= PKT_BYTES + OVH`, compared as naturals (R18, R129). -/
def State.unitReady (s : State) : Bool := decide (s.cfg.pktBytes + s.cfg.ovh ≤ s.unit.toNat)

/-- PRODUCER_FETCH is enabled (R98, R119). -/
def State.fetchEnabled (s : State) : Bool := !s.fatal && s.pstate == .idle && s.tickPend != 0

/-- BURST_WAKE is enabled (R98, R127). -/
def State.wakeEnabled (s : State) : Bool := !s.fatal && s.bstate == .idle && s.burstPend != 0

/-- BURST_PACKET is enabled (R98, R131). -/
def State.packetEnabled (s : State) : Bool := !s.fatal && s.bstate == .pkt

/-- An internal step is enabled (R98). -/
def State.enabled (s : State) : InternalStep → Bool
  | .producerFetch => s.fetchEnabled
  | .burstWake => s.wakeEnabled
  | .burstPacket => s.packetEnabled

end Sys2Proof.Machine
end

