-- ==== Sys2Proof/Machine/Burst.lean ====
section
/-! DEFINITION. The burst controller and mode-gated transmission gate: BURST_WAKE, BURST_PACKET, TX_OK, TX_FAIL
and PACE_DONE (spec/43_burst_controller.md). -/

namespace Sys2Proof.Machine

/-- `n = min(avail / SPP, MAXP)`: whole packets only (R130). -/
def State.packetCount (s : State) : Nat := min (s.occ.toNat / s.cfg.spp) s.cfg.maxp

/-- BURST_WAKE (R127), taken only when enabled (R98): the link gate, the unit gate, then the packet count. -/
def State.burstWake (s : State) : State :=
  let t := { s with burstPend := s.burstPend - 1 }
  if !s.linkReady then { t.drainAll with notReadyCnt := s.notReadyCnt + 1 }
  else if !s.unitReady then { t.drainAll with unitSkipCnt := s.unitSkipCnt + 1 }
  else if s.packetCount = 0 then t
  else { t with pktN := BitVec.ofNat 16 s.packetCount, pktI := 0, bstate := .pkt }

/-- `Finish(aborted, i)` (R136): it samples the bus, and advances RC by exactly the samples attempted. -/
def State.finish (s : State) (aborted : Bool) (i : Nat) : Attempt :=
  match s.advance (i * s.cfg.spp) with
  | .fatal c => .fatal c
  | .done t =>
    .done { t with wstart := s.timeNow, burstId := s.burstId + 1, bstate := .idle,
                   abortCnt := if aborted then s.abortCnt + 1 else s.abortCnt }

/-- The logical number of the first sample of packet `PKT_I`: `RC +_32 PKT_I*SPP` (R131, R142). -/
def State.packetBase (s : State) : U32 := s.rc + BitVec.ofNat 32 (s.pktI.toNat * s.cfg.spp)

/-- BURST_PACKET (R131), taken only when enabled (R98): liveness is re-checked before each packet (R138). -/
def State.burstPacket (s : State) : State :=
  if s.conn then { s with bstate := .txw }.emit (.txReq (s.buildPacket s.packetBase s.burstId))
  else (s.finish true s.pktI.toNat).orFatalInternal s

/-- `AfterAttempt()` (R134): the last packet finishes the burst; otherwise BURST mode paces. -/
def State.afterAttempt (s : State) : Attempt :=
  let i := s.pktI + 1
  let t := { s with pktI := i }
  if i = s.pktN then t.finish false i.toNat
  else if s.mode = .burst then .done ({ t with bstate := .pace }.emit .paceReq)
  else .done { t with bstate := .pkt }

/-- TX_OK (R132). -/
def execTxOk (s : State) : StepResult :=
  .next (s.unlessHalted (if s.bstate = .txw
    then (State.afterAttempt { s with txOkCnt := s.txOkCnt + 1 }).orFatal s
    else s.unexpectedEvent))

/-- TX_FAIL (R133): the failed packet counts as attempted. -/
def execTxFail (s : State) : StepResult :=
  .next (s.unlessHalted (if s.bstate = .txw
    then (State.afterAttempt { s with txFailCnt := s.txFailCnt + 1 }).orFatal s
    else s.unexpectedEvent))

/-- PACE_DONE (R135): MODE is not read again. -/
def execPaceDone (s : State) : StepResult :=
  .next (s.unlessHalted (if s.bstate = .pace
    then { s with bstate := .pkt }.respond .ok 0
    else s.unexpectedEvent))

end Sys2Proof.Machine
end

