-- ==== Sys2Proof/Machine/Operands.lean ====
section
/-! DEFINITION. What the operand fields of spec/30_encoding.md R86 to R93 denote: the mode byte of FM (R89, R150),
the register-view index of FR (spec/10_state.md R59), and the sample record of FS (R87, spec/42 R120). -/

namespace Sys2Proof.Machine

/-- The mode a mode byte names, `none` for MV > 1 (R89, R150). -/
def modeOfByte (mv : Byte) : Option Mode :=
  if mv = 0 then some .burst else if mv = 1 then some .continuous else none

/-- The record SENSOR_OK builds: the next sequence number, the snapshot and the three axis patterns (R25, R87, R120). -/
def State.sampleOf (s : State) (x y z : U16) : Sample :=
  { sequence := s.seq, relativeTimestamp := s.tsSnap, axisX := x, axisY := y, axisZ := z }

/-- The registers of the register view (R59). -/
inductive ViewReg where
  | status | wc | rc | occ | unit | burstId | seq | wstart | tsSlot | tsSnap
  | tickPend | burstPend | pktPos | faultCause
  | totalCnt | overflowCnt | readFailCnt | drainDropCnt | notReadyCnt | unitSkipCnt | txOkCnt | txFailCnt | abortCnt
  | capReg | sppReg | threshReg | maxpReg | ovhReg | pktbReg
deriving DecidableEq, Repr

/-- The register-view index table (R59); every index it does not list is reserved. -/
def viewMap : List (Byte × ViewReg) :=
  [ (0x00, .status), (0x01, .wc), (0x02, .rc), (0x03, .occ), (0x04, .unit), (0x05, .burstId), (0x06, .seq),
    (0x07, .wstart), (0x08, .tsSlot), (0x09, .tsSnap), (0x0A, .tickPend), (0x0B, .burstPend), (0x0C, .pktPos),
    (0x0D, .faultCause) ] ++
  [ (0x10, .totalCnt), (0x11, .overflowCnt), (0x12, .readFailCnt), (0x13, .drainDropCnt), (0x14, .notReadyCnt),
    (0x15, .unitSkipCnt), (0x16, .txOkCnt), (0x17, .txFailCnt), (0x18, .abortCnt) ] ++
  [ (0x20, .capReg), (0x21, .sppReg), (0x22, .threshReg), (0x23, .maxpReg), (0x24, .ovhReg), (0x25, .pktbReg) ]

/-- The register at an index, `none` where the index is reserved (R59). -/
def ViewReg.ofIndex (idx : Byte) : Option ViewReg := viewMap.lookup idx

/-- The 32-bit value of a register: a narrower field is zero-extended (R58, R59). -/
def State.view (s : State) : ViewReg → U32
  | .status => s.status
  | .wc => s.wc
  | .rc => s.rc
  | .occ => s.occ
  | .unit => s.unit.setWidth 32
  | .burstId => s.burstId.setWidth 32
  | .seq => s.seq.setWidth 32
  | .wstart => s.wstart.setWidth 32
  | .tsSlot => s.tsSlot.setWidth 32
  | .tsSnap => s.tsSnap.setWidth 32
  | .tickPend => s.tickPend.setWidth 32
  | .burstPend => s.burstPend.setWidth 32
  | .pktPos => s.pktPos
  | .faultCause => s.faultCause.setWidth 32
  | .totalCnt => s.totalCnt
  | .overflowCnt => s.overflowCnt
  | .readFailCnt => s.readFailCnt
  | .drainDropCnt => s.drainDropCnt
  | .notReadyCnt => s.notReadyCnt
  | .unitSkipCnt => s.unitSkipCnt
  | .txOkCnt => s.txOkCnt
  | .txFailCnt => s.txFailCnt
  | .abortCnt => s.abortCnt
  | .capReg => BitVec.ofNat 32 s.cfg.cap
  | .sppReg => BitVec.ofNat 32 s.cfg.spp
  | .threshReg => BitVec.ofNat 32 s.cfg.thresh
  | .maxpReg => BitVec.ofNat 32 s.cfg.maxp
  | .ovhReg => BitVec.ofNat 32 s.cfg.ovh
  | .pktbReg => BitVec.ofNat 32 s.cfg.pktBytes

end Sys2Proof.Machine
end

