-- ==== Sys2Proof/Machine/Control.lean ====
section
/-! DEFINITION. The control surface: GET_MODE, SET_MODE, SET_POWER (spec/45_mode_controller.md) and
READ_REG (spec/46_link_and_host.md R159). -/

namespace Sys2Proof.Machine

/-- GET_MODE (R149): performed also while fatal (R97). -/
def execGetMode (s : State) : StepResult := .next (s.respond .ok s.mode.word)

/-- The effect of SET_MODE: the value check, then the permission check on the operand P, not on PWR (R150). -/
def State.setMode (s : State) (mv : Byte) (p : Bool) : State :=
  match modeOfByte mv with
  | none => s.respond .invalidValue s.mode.word
  | some .burst => { s with mode := .burst }.respond .ok 0
  | some .continuous =>
    if p then { s with mode := .continuous }.respond .ok 1
    else s.respond .permDenied s.mode.word

/-- SET_MODE mv, p (R150). -/
def execSetMode (mv : Byte) (p : Bool) (s : State) : StepResult := .next (s.unlessHalted (s.setMode mv p))

/-- The effect of SET_POWER: latch B, and with power withdrawn in CONTINUOUS downgrade in the same step (R151). -/
def State.setPower (s : State) (b : Bool) : State :=
  if !b && s.mode == .continuous then { s with pwr := b, mode := .burst }.respond .ok 0
  else { s with pwr := b }.respond .ok s.mode.word

/-- SET_POWER b (R151). -/
def execSetPower (b : Bool) (s : State) : StepResult := .next (s.unlessHalted (s.setPower b))

/-- READ_REG idx (R159): performed also while fatal (R97), and it changes no state (R79). -/
def execReadReg (idx : Byte) (s : State) : StepResult :=
  match ViewReg.ofIndex idx with
  | some r => .next (s.respond .ok (s.view r))
  | none => .next (s.respond .invalidValue 0)

end Sys2Proof.Machine
end

