-- ==== Sys2Proof/Machine/Link.lean ====
section
/-! DEFINITION. The link-readiness events LINK_CONNECT, LINK_DISCONNECT, LINK_SUBSCRIBE and LINK_UNIT
(spec/46_link_and_host.md R154 to R158). -/

namespace Sys2Proof.Machine

/-- A fresh link record, not subscribed and with no unit, with the given liveness (R155, R156). -/
def State.freshLink (s : State) (conn : Bool) : State :=
  { s with conn := conn, subData := false, subHb := false, unit := 0 }

/-- LINK_CONNECT (R155). -/
def execLinkConnect (s : State) : StepResult := .next (s.unlessHalted ((s.freshLink true).respond .ok 0))

/-- LINK_DISCONNECT (R156): a burst in progress is not touched. -/
def execLinkDisconnect (s : State) : StepResult := .next (s.unlessHalted ((s.freshLink false).respond .ok 0))

/-- The effect of LINK_SUBSCRIBE on the flag SEL names (R157). -/
def State.subscribe (s : State) (sel en : Bool) : State :=
  if sel then { s with subHb := en } else { s with subData := en }

/-- LINK_SUBSCRIBE sel, en (R157). -/
def execLinkSubscribe (sel en : Bool) (s : State) : StepResult :=
  .next (s.unlessHalted ((s.subscribe sel en).respond .ok 0))

/-- LINK_UNIT n (R158): every value is accepted. -/
def execLinkUnit (n : U16) (s : State) : StepResult :=
  .next (s.unlessHalted ({ s with unit := n }.respond .ok 0))

end Sys2Proof.Machine
end

