-- ==== Sys2Proof/Machine/Producer.lean ====
section
/-! DEFINITION. The producer sequencer: PRODUCER_FETCH, SENSOR_OK and SENSOR_ERR (spec/42_producer.md). -/

namespace Sys2Proof.Machine

/-- PRODUCER_FETCH (R119), taken only when enabled (R98). -/
def State.producerFetch (s : State) : State :=
  { s with tickPend := s.tickPend - 1, tsSnap := s.tsSlot, pstate := .wait }.emit .sensorReq

/-- `SignalBurst()` (R122): posts one burst-ready wake, or BURST_SIGNAL_OVERFLOW (R164). -/
def State.signalBurst (s : State) : Attempt :=
  if s.burstPend = 0xFFFF then .fatal .burstSignalOverflow
  else .done { s with burstPend := s.burstPend + 1 }

/-- `EnqueueOrDrop(rec)` (R121): the newest sample is dropped on a full buffer,
and the wake is posted on the push after which the occupancy equals THRESH (R122). -/
def State.enqueueOrDrop (s : State) (r : Sample) : Attempt :=
  if s.occ.toNat > s.cfg.cap then .fatal .cursorInvariant
  else if s.occ.toNat = s.cfg.cap then .done { s with overflowCnt := s.overflowCnt + 1 }
  else if s.occ.toNat + 1 = s.cfg.thresh then (s.push r).signalBurst
  else .done (s.push r)

/-- The effect of an awaited SENSOR_OK: a sequence number is used whether the sample is stored or dropped (R120). -/
def State.acceptSample (s : State) (x y z : U16) : Attempt :=
  State.enqueueOrDrop { s with seq := s.seq + 1, pstate := .idle } (s.sampleOf x y z)

/-- SENSOR_OK x, y, z (R120). -/
def execSensorOk (x y z : U16) (s : State) : StepResult :=
  .next (s.unlessHalted (if s.pstate = .wait then (s.acceptSample x y z).orFatal s else s.unexpectedEvent))

/-- SENSOR_ERR (R123): no sample, no sequence number. -/
def execSensorErr (s : State) : StepResult :=
  .next (s.unlessHalted (if s.pstate = .wait
    then { s with readFailCnt := s.readFailCnt + 1, pstate := .idle }.respond .ok 0
    else s.unexpectedEvent))

end Sys2Proof.Machine
end

