-- ==== Sys2Proof/Machine/Trigger.lean ====
section
/-! DEFINITION. The sample-clock interrupt trigger: TICK (spec/41_sample_clock.md R115). -/

namespace Sys2Proof.Machine

/-- The effect of TICK: it samples the bus, and TICK_OVERFLOW if the wake count is full (R115, R163). -/
def State.tick (s : State) : Attempt :=
  if s.tickPend = 0xFFFF then .fatal .tickOverflow
  else .done { s with tsSlot := s.timeNow - s.wstart, tickPend := s.tickPend + 1 }

/-- TICK (R115). -/
def execTick (s : State) : StepResult := .next (s.unlessHalted (s.tick.orFatal s))

end Sys2Proof.Machine
end

