-- ==== Sys2Proof/Machine/Dispatch.lean ====
section
/-! DEFINITION. One arm per request word of the opcode map (spec/30_encoding.md R85), each a direct call of its meaning.
R97: the meaning itself answers HALTED while fatal, where its word is not READ_REG or GET_MODE. -/

namespace Sys2Proof.Machine

def exec (i : Instr) (s : State) : Host.Outcome State Fault Refusal :=
  match i with
  | .getMode => Sys2Proof.Machine.execGetMode s
  | .setMode mv p => Sys2Proof.Machine.execSetMode mv p s
  | .setPower b => Sys2Proof.Machine.execSetPower b s
  | .readReg idx => Sys2Proof.Machine.execReadReg idx s
  | .linkConnect => Sys2Proof.Machine.execLinkConnect s
  | .linkDisconnect => Sys2Proof.Machine.execLinkDisconnect s
  | .linkSubscribe sel en => Sys2Proof.Machine.execLinkSubscribe sel en s
  | .linkUnit n => Sys2Proof.Machine.execLinkUnit n s
  | .sensorOk x y z => Sys2Proof.Machine.execSensorOk x y z s
  | .sensorErr => Sys2Proof.Machine.execSensorErr s
  | .txOk => Sys2Proof.Machine.execTxOk s
  | .txFail => Sys2Proof.Machine.execTxFail s
  | .tick => Sys2Proof.Machine.execTick s
  | .paceDone => Sys2Proof.Machine.execPaceDone s

end Sys2Proof.Machine
end

