-- ==== Sys2Proof/Machine/Request.lean ====
section
/-! DEFINITION. What one stimulus does: the handling of a request word (spec/30_encoding.md R97), an internal step (R98),
`rst` (spec/70 R180); and the eager schedule, a convention for running programs (R103). -/

namespace Sys2Proof.Machine

/-- The handling of one request word: ILLEGAL first, then the opcode's meaning, which checks HALTED first (R97). -/
def handleRequest (w : Word64) (s : State) : StepResult :=
  match decode w with
  | .instr i => exec i s
  | .illegal _ => .next s.answerIllegal

/-- The effect of an internal step that is enabled (R98). -/
def State.internalEffect (s : State) : InternalStep → State
  | .producerFetch => s.producerFetch
  | .burstWake => s.burstWake
  | .burstPacket => s.burstPacket

/-- An internal step, which is not taken where it is not enabled (R98; assumption 8). -/
def runInternal (u : InternalStep) (s : State) : StepResult :=
  .next (if s.enabled u then s.internalEffect u else s)

/-- What one stimulus does, in a state whose step has begun (R20, R180). -/
def runStimulus (x : Stimulus) (s : State) : StepResult :=
  match x with
  | .request w _ => handleRequest w s
  | .internal u _ => runInternal u s
  | .reset => .next s.assertReset

/-- What the `time_now` bus carries at a stimulus's step; `rst` samples nothing (R45). -/
def Stimulus.busTime (x : Stimulus) (held : U16) : U16 :=
  match x with
  | .request _ now => now
  | .internal _ now => now
  | .reset => held

/-- The internal step the eager schedule takes next: producer fetch, then burst wake, then burst packet (R103). -/
def State.eagerChoice (s : State) : Option InternalStep :=
  if s.fetchEnabled then some .producerFetch
  else if s.wakeEnabled then some .burstWake
  else if s.packetEnabled then some .burstPacket
  else none

/-- At most `fuel` internal steps under the eager schedule, with the outputs they emit in order (R103).
The bus holds its value meanwhile, as `@t` of R101 says. -/
def State.settle : Nat → State → State × List Output
  | 0, s => (s, [])
  | fuel + 1, s =>
    match s.eagerChoice with
    | none => (s, [])
    | some u =>
      let t := { s with resp := none, out := none }.internalEffect u
      let r := State.settle fuel t
      (r.1, t.out.toList ++ r.2)

end Sys2Proof.Machine
end

