-- ==== Sys2Proof/Machine/Step.lean ====
section
/-! DEFINITION. One step of SA-RBC (spec/00_scope.md R20): the next stimulus of the schedule is taken, whole.
With nothing scheduled the block waits (spec/70 R182; assumption 3). -/

namespace Sys2Proof.Machine

/-- One step (R20): it is deterministic given the schedule, and every schedule is some state's (R66). -/
def step (s : State) : Host.Outcome State Fault Refusal :=
  match s.schedule with
  | [] => .next (s.beginStep s.timeNow [])
  | x :: rest => runStimulus x (s.beginStep (x.busTime s.timeNow) rest)

/-- `s` with the word of a table row as the next request on the port, at the bus's present time (assumption 9). -/
def State.withFetchWord (s : State) (nbits w : Nat) : State :=
  { s with schedule := .request (tableWord nbits w) s.timeNow :: s.schedule }

end Sys2Proof.Machine
end

