-- ==== Sys2Proof/Safety.lean ====
section
/-! DEFINITION. What counts as a safe run, in the terms the statements use: the invariants the spec states of every step
boundary (spec/40 R109 to R111, spec/60 R162 to R165), what the environment may send (spec/46 R160),
and the part of the state that is the block's own. -/

namespace Sys2Proof.Machine

/-- The block's own state: the state with the ports and the schedule blanked out.
Two states with equal `arch` differ at most in what the environment sees or sends. -/
def State.arch (s : State) : State := { s with resp := none, out := none, timeNow := 0, schedule := [] }

/-- Invariant OCC and ORDER: `WC -_32 RC <= CAP` (R109, R110). -/
def State.OccOk (s : State) : Prop := s.occ.toNat ≤ s.cfg.cap

/-- The slot memory is in canonical form and holds no byte outside `SLOT[0..CAP-1]` (R24, R65). -/
def State.MemOk (s : State) : Prop := s.mem.wf ∧ ∀ c ∈ s.mem, c.1 < 10 * s.cfg.cap

/-- Every live slot has been written since reset (R111). -/
def State.LiveWritten (s : State) : Prop :=
  ∀ c : U32, s.live c = true → ∀ k < 10, (s.mem.read? (slotAddr (Config.index s.cfg c) + k)).isSome = true

/-- The burst position: during a burst a packet is left to attempt, and the burst's whole packets are in the buffer
(R36, R110, R130). -/
def State.BurstOk (s : State) : Prop :=
  s.bstate ≠ .idle →
    s.pktI.toNat < s.pktN.toNat ∧ s.pktN.toNat ≤ s.cfg.maxp ∧ s.pktN.toNat * s.cfg.spp ≤ s.occ.toNat

/-- `BURST_PEND <= 1`, with what makes it inductive: a posted wake and a running burst both mean that the occupancy
has not fallen below THRESH since the wake was posted (R164). -/
def State.SignalOk (s : State) : Prop :=
  s.burstPend.toNat ≤ 1 ∧
  (s.burstPend ≠ 0 → s.bstate = .idle ∧ s.cfg.thresh ≤ s.occ.toNat) ∧
  (s.bstate ≠ .idle → s.cfg.thresh ≤ s.occ.toNat)

/-- `FAULT_CAUSE` is NONE exactly while `FATAL = 0`, and the only reachable cause is TICK_OVERFLOW (R162 to R165). -/
def State.FaultOk (s : State) : Prop :=
  (s.fatal = false → s.faultCause = 0) ∧ (s.fatal = true → s.faultCause = FatalCause.tickOverflow.code)

/-- The invariant of every step boundary. -/
structure State.Inv (s : State) : Prop where
  occ : s.OccOk
  mem : s.MemOk
  live : s.LiveWritten
  burst : s.BurstOk
  signal : s.SignalOk
  fault : s.FaultOk

/-- A safe state: the invariant holds and the block is not in the fatal state (R169: a fatal state is never final). -/
def State.Safe (s : State) : Prop := s.Inv ∧ s.fatal = false

/-- No internal step is enabled (R98, R103). -/
def State.quiescent (s : State) : Bool := !s.fetchEnabled && !s.wakeEnabled && !s.packetEnabled

/-- A run may end here: nothing is owed, no internal step is enabled, and the block is not fatal (R169, R174). -/
def State.final (s : State) : Bool :=
  !s.fatal && s.pstate == .idle && s.bstate == .idle && s.quiescent

/-- The threshold-edge stall: idle, no wake posted, and the occupancy at or above THRESH (R185). -/
def State.Stalled (s : State) : Prop :=
  s.bstate = .idle ∧ s.burstPend = 0 ∧ s.cfg.thresh ≤ s.occ.toNat

/-- The environment's obligations: the word is one its party may send now (R160). -/
def State.mayArrive (s : State) : Instr → Bool
  | .sensorOk _ _ _ | .sensorErr => s.pstate == .wait
  | .txOk | .txFail => s.bstate == .txw
  | .paceDone => s.bstate == .pace
  | .getMode | .setMode _ _ | .setPower _ | .readReg _ => true
  | .linkConnect | .linkDisconnect | .linkSubscribe _ _ | .linkUnit _ => true
  | .tick => true

/-- The stimulus taken next is not `rst`. -/
def State.noReset (s : State) : Prop := s.schedule.head? ≠ some .reset

/-- The next request word on the port, if that is what the schedule takes next. -/
def State.nextWord (s : State) : Option Word64 :=
  match s.schedule with
  | .request w _ :: _ => some w
  | _ => none

/-- The next request, decoded. -/
def State.nextInstr (s : State) : Option Instr := s.nextWord.bind fun w => (decode w).toOption

/-- The internal step the schedule takes next, if it is one and it is enabled. -/
def State.nextInternal (s : State) : Option InternalStep :=
  match s.schedule with
  | .internal u _ :: _ => if s.enabled u then some u else none
  | _ => none

end Sys2Proof.Machine
end

