-- ==== Sys2Proof/Certificates/Slice0/Obligations.lean ====
section
/-! DEFINITION. The statements for the provers, from the numbered rules of spec/.
Where a rule gives a value, the statement computes it from the fields of the state, not by the model's own functions.
`s.timeNow`, which TICK and `Finish` sample, is a free input (R45): every statement holds for every value of it.
`s.slotByte` and `s.slotRead` give a free value for a slot no push has reached (R24): no statement rests on that value. -/

namespace Sys2Proof.Spec
open Sys2Proof.Machine

/-- MODE as a number (R43). -/
def modeNum (m : Mode) : Nat := if m = .continuous then 1 else 0

/-- PSTATE as a number (R31). -/
def pstateNum (p : PState) : Nat := if p = .wait then 1 else 0

/-- BSTATE as a number (R34). -/
def bstateNum : BState → Nat
  | .idle => 0
  | .pkt => 1
  | .txw => 2
  | .pace => 3

/-- STATUS as the sum of its fields at their bit places (R60). -/
def statusWord (s : State) : U32 :=
  BitVec.ofNat 32 (modeNum s.mode + 2 * s.pwr.toNat + 4 * s.conn.toNat + 8 * s.subData.toNat + 16 * s.subHb.toNat
    + 32 * s.fatal.toNat + 64 * s.protoErr.toNat + 256 * pstateNum s.pstate + 4096 * bstateNum s.bstate)

/-- The register view: every defined index with its value (R58 to R61). -/
def registerView (s : State) : List (Byte × U32) :=
  [ (0x00, statusWord s), (0x01, s.wc), (0x02, s.rc), (0x03, s.wc - s.rc),
    (0x04, BitVec.ofNat 32 s.unit.toNat), (0x05, BitVec.ofNat 32 s.burstId.toNat), (0x06, BitVec.ofNat 32 s.seq.toNat),
    (0x07, BitVec.ofNat 32 s.wstart.toNat), (0x08, BitVec.ofNat 32 s.tsSlot.toNat),
    (0x09, BitVec.ofNat 32 s.tsSnap.toNat), (0x0A, BitVec.ofNat 32 s.tickPend.toNat),
    (0x0B, BitVec.ofNat 32 s.burstPend.toNat), (0x0C, BitVec.ofNat 32 (65536 * s.pktN.toNat + s.pktI.toNat)),
    (0x0D, BitVec.ofNat 32 s.faultCause.toNat) ] ++
  [ (0x10, s.totalCnt), (0x11, s.overflowCnt), (0x12, s.readFailCnt), (0x13, s.drainDropCnt), (0x14, s.notReadyCnt),
    (0x15, s.unitSkipCnt), (0x16, s.txOkCnt), (0x17, s.txFailCnt), (0x18, s.abortCnt) ] ++
  [ (0x20, BitVec.ofNat 32 (2 ^ s.cfg.capLog)), (0x21, BitVec.ofNat 32 s.cfg.spp), (0x22, BitVec.ofNat 32 s.cfg.thresh),
    (0x23, BitVec.ofNat 32 s.cfg.maxp), (0x24, BitVec.ofNat 32 s.cfg.ovh),
    (0x25, BitVec.ofNat 32 (1 + 10 * s.cfg.spp + 2)) ]

/-- A state with a response word of the given CODE and DATA on the port: `CODE + 2^32 * DATA` (R95). -/
def answering (s : State) (code : Nat) (data : Nat) : State :=
  { s with resp := some (BitVec.ofNat 64 (code + 2 ^ 32 * data)) }

/-- The answer while fatal: HALTED with the cause (R96, R169). -/
def halted (s : State) : State := answering s 5 s.faultCause.toNat

/-- The answer to an event that is not awaited (R96, R166). -/
def unexpected (s : State) : State := answering { s with protoErr := true } 4 0

/-- The state in which a fatal cause has been raised by a request: nothing else of the step remains (R168). -/
def raised (s : State) (cause : Nat) : State :=
  answering { s with fatal := true, faultCause := BitVec.ofNat 8 cause } 5 cause

/-- The number of the slot of logical sample `c` (R104). -/
def slotOf (c : U32) (cfg : Config) : Nat := c.toNat % 2 ^ cfg.capLog

/-- The state after `Finish(aborted, i)` (R136), where `i * SPP` samples are there to consume. -/
def finishedBurst (s : State) (aborted : Bool) (i : Nat) : State :=
  { s with rc := s.rc + BitVec.ofNat 32 (i * s.cfg.spp), wstart := s.timeNow, burstId := s.burstId + 1,
           abortCnt := s.abortCnt + BitVec.ofNat 32 aborted.toNat, bstate := .idle }

/-- The state after an attempt that is not the last: the position moves on, and BURST mode asks for the delay (R134). -/
def betweenPackets (s : State) : State :=
  { s with pktI := s.pktI + 1,
           bstate := if s.mode = .burst then .pace else .pkt,
           out := if s.mode = .burst then some .paceReq else s.out }

/-- Match and mask of every row of the opcode map (R85 to R92). -/
def opcodeRows : List (Word64 × Word64) :=
  [ (0x0100000000000000, 0xFFFFFFFFFFFFFFFF), (0x0200000000000000, 0xFFFFFFFFFFFFFE00),
    (0x0300000000000000, 0xFFFFFFFFFFFFFFFE), (0x0400000000000000, 0xFFFFFFFFFFFFFF00),
    (0x1000000000000000, 0xFFFFFFFFFFFFFFFF), (0x1100000000000000, 0xFFFFFFFFFFFFFFFF),
    (0x1200000000000000, 0xFFFFFFFFFFFFFEFE), (0x1300000000000000, 0xFFFFFFFFFFFF0000) ] ++
  [ (0x2000000000000000, 0xFFFF000000000000), (0x2100000000000000, 0xFFFFFFFFFFFFFFFF),
    (0x2200000000000000, 0xFFFFFFFFFFFFFFFF), (0x2300000000000000, 0xFFFFFFFFFFFFFFFF),
    (0x3000000000000000, 0xFFFFFFFFFFFFFFFF), (0x3100000000000000, 0xFFFFFFFFFFFFFFFF) ]

/-- The reset values of R64. A slot's content is unspecified: no byte of it has been written, so each reads as a free
value. -/
def ResetValues (t : State) : Prop :=
  t.wc = 0 ∧ t.rc = 0 ∧ t.tsSlot = 0 ∧ t.tickPend = 0 ∧ t.pstate = .idle ∧ t.tsSnap = 0 ∧ t.seq = 0 ∧
  t.bstate = .idle ∧ t.burstPend = 0 ∧ t.pktI = 0 ∧ t.pktN = 0 ∧ t.burstId = 0 ∧ t.wstart = 0 ∧
  t.conn = false ∧ t.subData = false ∧ t.subHb = false ∧ t.unit = 0 ∧ t.mode = .burst ∧ t.pwr = false ∧
  t.fatal = false ∧ t.faultCause = 0 ∧ t.protoErr = false ∧
  t.totalCnt = 0 ∧ t.overflowCnt = 0 ∧ t.readFailCnt = 0 ∧ t.drainDropCnt = 0 ∧ t.notReadyCnt = 0 ∧
  t.unitSkipCnt = 0 ∧ t.txOkCnt = 0 ∧ t.txFailCnt = 0 ∧ t.abortCnt = 0 ∧
  ∀ a, t.mem.read? a = none

/-- The step taken next is TX_OK or TX_FAIL. -/
def nextIsTxResult (s : State) : Prop := s.nextInstr = some .txOk ∨ s.nextInstr = some .txFail

/-- The step taken next is one of the burst controller's (R177). -/
def nextIsBurstStep (s : State) : Prop :=
  s.nextInternal = some .burstWake ∨ s.nextInternal = some .burstPacket ∨ nextIsTxResult s ∨
    s.nextInstr = some .paceDone

end Sys2Proof.Spec

open Sys2Proof Sys2Proof.Machine Sys2Proof.Spec

/-! ## Request words, one by one -/

/-- R149: GET_MODE answers MODE and changes no state, also while fatal. -/
def Obligations.GetModeAnswersTheMode : Prop :=
  ∀ s : State, exec .getMode s = .next (answering s 0 (modeNum s.mode))

/-- R150: the value check, then the permission check on P; PWR is not consulted. -/
def Obligations.SetModeFollowsThePermissionRule : Prop :=
  ∀ (s : State) (mv : Byte) (p : Bool), exec (.setMode mv p) s = .next (
    if s.fatal then halted s
    else if 1 < mv.toNat then answering s 2 (modeNum s.mode)
    else if mv.toNat = 0 then answering { s with mode := .burst } 0 0
    else if p then answering { s with mode := .continuous } 0 1
    else answering s 1 (modeNum s.mode))

/-- R151: PWR latches B; B = 0 in CONTINUOUS downgrades in the same step. -/
def Obligations.SetPowerLatchesAndDowngrades : Prop :=
  ∀ (s : State) (b : Bool), exec (.setPower b) s = .next (
    if s.fatal then halted s
    else if b = false ∧ s.mode = .continuous then answering { s with pwr := b, mode := .burst } 0 0
    else answering { s with pwr := b } 0 (modeNum s.mode))

/-- R159, with the index table of R59, STATUS of R60, PKTPOS of R61 and the configuration registers of R58:
a listed index answers OK and its value, every other index INVALID_VALUE and 0; nothing else changes, also while fatal. -/
def Obligations.ReadRegAnswersTheRegisterView : Prop :=
  ∀ (s : State) (idx : Byte), exec (.readReg idx) s = .next (
    match (registerView s).lookup idx with
    | some v => answering s 0 v.toNat
    | none => answering s 2 0)

/-- R155 and R156: a fresh link record, not ready but for CONN; the burst in progress is not touched. -/
def Obligations.ConnectAndDisconnectMakeAFreshLinkRecord : Prop :=
  ∀ s : State,
    exec .linkConnect s = .next (if s.fatal then halted s
      else answering { s with conn := true, subData := false, subHb := false, unit := 0 } 0 0) ∧
    exec .linkDisconnect s = .next (if s.fatal then halted s
      else answering { s with conn := false, subData := false, subHb := false, unit := 0 } 0 0)

/-- R157: SEL = 0 writes SUB_DATA, SEL = 1 writes SUB_HB, also while CONN = 0. -/
def Obligations.SubscribeWritesTheSelectedFlag : Prop :=
  ∀ (s : State) (sel en : Bool), exec (.linkSubscribe sel en) s = .next (if s.fatal then halted s
    else answering { s with subData := if sel then s.subData else en, subHb := if sel then en else s.subHb } 0 0)

/-- R158: every unit size is accepted. -/
def Obligations.LinkUnitStoresEveryValue : Prop :=
  ∀ (s : State) (n : U16), exec (.linkUnit n) s = .next (if s.fatal then halted s
    else answering { s with unit := n } 0 0)

/-- R115 and R163: TICK writes TS_SLOT and TICK_PEND only, and a full wake count is TICK_OVERFLOW with nothing performed. -/
def Obligations.TickCapturesAndCounts : Prop :=
  ∀ s : State, exec .tick s = .next (
    if s.fatal then halted s
    else if s.tickPend.toNat = 0xFFFF then raised s 1
    else answering { s with tsSlot := BitVec.ofNat 16 (2 ^ 16 + s.timeNow.toNat - s.wstart.toNat),
                            tickPend := BitVec.ofNat 16 (s.tickPend.toNat + 1) } 0 0)

/-- R123: a failed read is counted, takes no sequence number and leaves the ring buffer alone. -/
def Obligations.SensorErrCountsAndSkips : Prop :=
  ∀ s : State, exec .sensorErr s = .next (
    if s.fatal then halted s
    else if s.pstate = .wait then answering { s with readFailCnt := s.readFailCnt + 1, pstate := .idle } 0 0
    else unexpected s)

/-- R120, R121, R107, R122 where the buffer has room: the record goes to slot `WC mod CAP`, which then reads as it,
every byte outside that slot's ten reads as before, and the burst-ready wake is posted exactly at the threshold. -/
def Obligations.SensorOkStoresTheSample : Prop :=
  ∀ (s : State) (x y z : U16), s.fatal = false → s.pstate = .wait → s.occ.toNat < 2 ^ s.cfg.capLog →
    (s.occ.toNat + 1 = s.cfg.thresh → s.burstPend.toNat ≠ 0xFFFF) →
    ∃ t : State, exec (.sensorOk x y z) s = .next t ∧
      t = answering { s with mem := t.mem, wc := s.wc + 1, totalCnt := s.totalCnt + 1, seq := s.seq + 1, pstate := .idle,
                             burstPend := if s.occ.toNat + 1 = s.cfg.thresh then s.burstPend + 1 else s.burstPend } 0 0 ∧
      t.slotRead (slotOf s.wc s.cfg) =
        { sequence := s.seq, relativeTimestamp := s.tsSnap, axisX := x, axisY := y, axisZ := z } ∧
      ∀ a : Nat, (a < 10 * slotOf s.wc s.cfg ∨ 10 * slotOf s.wc s.cfg + 10 ≤ a) →
        t.mem.read? a = s.mem.read? a ∧ t.slotByte a = s.slotByte a

/-- R120, R121, R108 on a full buffer: the sample is dropped and counted, its sequence number is used,
and nothing else changes: no slot, no cursor, no signal. -/
def Obligations.SensorOkDropsOnAFullBuffer : Prop :=
  ∀ (s : State) (x y z : U16), s.fatal = false → s.pstate = .wait → s.occ.toNat = 2 ^ s.cfg.capLog →
    exec (.sensorOk x y z) s =
      .next (answering { s with overflowCnt := s.overflowCnt + 1, seq := s.seq + 1, pstate := .idle } 0 0)

/-- R121, R122, R168: the two assertions SENSOR_OK makes, each precise: the state before the step but for the fault. -/
def Obligations.SensorOkAssertionsArePrecise : Prop :=
  ∀ (s : State) (x y z : U16), s.fatal = false → s.pstate = .wait →
    (2 ^ s.cfg.capLog < s.occ.toNat → exec (.sensorOk x y z) s = .next (raised s 3)) ∧
    (s.occ.toNat < 2 ^ s.cfg.capLog → s.occ.toNat + 1 = s.cfg.thresh → s.burstPend.toNat = 0xFFFF →
      exec (.sensorOk x y z) s = .next (raised s 2))

/-- R132 to R134 where packets remain: the attempt is counted, BURST mode asks for the delay, CONTINUOUS mode does not. -/
def Obligations.TxResultGoesOnWithTheBurst : Prop :=
  ∀ s : State, s.fatal = false → s.bstate = .txw → s.pktI + 1 ≠ s.pktN →
    exec .txOk s = .next (answering (betweenPackets { s with txOkCnt := s.txOkCnt + 1 }) 0 0) ∧
    exec .txFail s = .next (answering (betweenPackets { s with txFailCnt := s.txFailCnt + 1 }) 0 0)

/-- R132, R133, R134, R136 for the last packet: the burst finishes and RC advances by exactly the samples attempted;
where they exceed the occupancy, CURSOR_INVARIANT (R112). -/
def Obligations.TxResultFinishesTheBurst : Prop :=
  ∀ s : State, s.fatal = false → s.bstate = .txw → s.pktI + 1 = s.pktN →
    (s.pktN.toNat * s.cfg.spp ≤ s.occ.toNat →
      exec .txOk s = .next (answering
        (finishedBurst { s with txOkCnt := s.txOkCnt + 1, pktI := s.pktN } false s.pktN.toNat) 0 0) ∧
      exec .txFail s = .next (answering
        (finishedBurst { s with txFailCnt := s.txFailCnt + 1, pktI := s.pktN } false s.pktN.toNat) 0 0)) ∧
    (s.occ.toNat < s.pktN.toNat * s.cfg.spp →
      exec .txOk s = .next (raised s 3) ∧ exec .txFail s = .next (raised s 3))

/-- R135: the delay is over, and MODE is not read. -/
def Obligations.PaceDoneResumesTheBurst : Prop :=
  ∀ s : State, exec .paceDone s = .next (
    if s.fatal then halted s
    else if s.bstate = .pace then answering { s with bstate := .pkt } 0 0
    else unexpected s)

/-- R166: an event its unit is not waiting for sets PROTO_ERR, is answered UNEXPECTED and is discarded. -/
def Obligations.UnawaitedEventsAreUnexpected : Prop :=
  ∀ (s : State) (x y z : U16), s.fatal = false →
    (s.pstate ≠ .wait →
      exec (.sensorOk x y z) s = .next (unexpected s) ∧ exec .sensorErr s = .next (unexpected s)) ∧
    (s.bstate ≠ .txw → exec .txOk s = .next (unexpected s) ∧ exec .txFail s = .next (unexpected s)) ∧
    (s.bstate ≠ .pace → exec .paceDone s = .next (unexpected s))

/-- R169 and R97: while fatal every request but READ_REG and GET_MODE is answered HALTED with the cause
and changes nothing. -/
def Obligations.FatalStateRefusesRequests : Prop :=
  ∀ (i : Instr) (s : State), s.fatal = true → i ≠ .getMode → (∀ idx, i ≠ .readReg idx) →
    exec i s = .next (halted s)

/-! ## The step, the internal steps and reset -/

/-- R20, R97, R84: a word that decodes to a well-formed instruction runs that instruction's meaning in the state whose
step has begun: the schedule moved on, the bus at its value, the output ports clear. -/
def Obligations.StepRunsTheDecodedRequest : Prop :=
  ∀ (s : State) (w : Word64) (now : U16) (rest : List Stimulus) (i : Instr),
    s.schedule = .request w now :: rest → decode w = .instr i → i.wellFormed = true →
    step s = exec i { s with schedule := rest, timeNow := now, resp := none, out := none }

/-- R94: a word that fits no row of the opcode map is answered ILLEGAL and changes nothing, also while fatal. -/
def Obligations.IllegalWordsAreAnsweredAndChangeNothing : Prop :=
  ∀ (s : State) (w : Word64) (now : U16) (rest : List Stimulus),
    s.schedule = .request w now :: rest → (∀ row ∈ opcodeRows, w &&& row.2 ≠ row.1) →
    step s = .next (answering { s with schedule := rest, timeNow := now, out := none } 3 0)

/-- R119: PRODUCER_FETCH takes one wake, snapshots the timestamp and asks for one read. -/
def Obligations.ProducerFetchTakesOneWake : Prop :=
  ∀ (s : State) (now : U16) (rest : List Stimulus), s.schedule = .internal .producerFetch now :: rest →
    s.fatal = false → s.pstate = .idle → 0 < s.tickPend.toNat →
    step s = .next { s with schedule := rest, timeNow := now, resp := none, out := some .sensorReq,
                            tickPend := s.tickPend - 1, tsSnap := s.tsSlot, pstate := .wait }

/-- R127 to R130: BURST_WAKE takes one wake, then the link gate, the unit gate and the packet count decide. -/
def Obligations.BurstWakeGatesTheBurst : Prop :=
  ∀ (s : State) (now : U16) (rest : List Stimulus), s.schedule = .internal .burstWake now :: rest →
    s.fatal = false → s.bstate = .idle → 0 < s.burstPend.toNat →
    let b : State := { s with schedule := rest, timeNow := now, resp := none, out := none,
                              burstPend := s.burstPend - 1 }
    let n : Nat := min (s.occ.toNat / s.cfg.spp) s.cfg.maxp
    step s = .next (
      if s.subData = false ∨ s.conn = false then
        { b with rc := s.wc, drainDropCnt := s.drainDropCnt + (s.wc - s.rc), notReadyCnt := s.notReadyCnt + 1 }
      else if s.unit.toNat < (1 + 10 * s.cfg.spp + 2) + s.cfg.ovh then
        { b with rc := s.wc, drainDropCnt := s.drainDropCnt + (s.wc - s.rc), unitSkipCnt := s.unitSkipCnt + 1 }
      else if n = 0 then b
      else { b with pktN := BitVec.ofNat 16 n, pktI := 0, bstate := .pkt })

/-- R131 with a live peer, R142 to R145: one packet goes to the transport, made of the burst id, the ten bytes of each of
`SPP` consecutive logical samples from `RC + PKT_I*SPP` on, and the CRC of all that, low byte first. -/
def Obligations.BurstPacketSendsTheNextSamples : Prop :=
  ∀ (s : State) (now : U16) (rest : List Stimulus), s.schedule = .internal .burstPacket now :: rest →
    s.fatal = false → s.bstate = .pkt → s.conn = true →
    let body : List Byte := s.burstId :: (List.range s.cfg.spp).flatMap fun j =>
      (s.slotRead ((s.rc.toNat + s.pktI.toNat * s.cfg.spp + j) % 2 ^ s.cfg.capLog)).serialise
    step s = .next { s with schedule := rest, timeNow := now, resp := none, bstate := .txw,
                            out := some (.txReq (body ++ [BitVec.ofNat 8 (crc16 body).toNat,
                                                          BitVec.ofNat 8 ((crc16 body).toNat / 256)])) }

/-- R131, R136 with no peer: the burst aborts, RC advances by the samples attempted; R112: or CURSOR_INVARIANT,
which an internal step answers with no response word (R168). -/
def Obligations.BurstPacketAbortsWithoutAPeer : Prop :=
  ∀ (s : State) (now : U16) (rest : List Stimulus), s.schedule = .internal .burstPacket now :: rest →
    s.fatal = false → s.bstate = .pkt → s.conn = false →
    let b : State := { s with schedule := rest, timeNow := now, resp := none, out := none }
    step s = .next (if s.pktI.toNat * s.cfg.spp ≤ s.occ.toNat then finishedBurst b true s.pktI.toNat
      else { b with fatal := true, faultCause := 3 })

/-- R98: an internal step that is not enabled is not taken. -/
def Obligations.DisabledInternalStepsDoNothing : Prop :=
  ∀ (s : State) (u : InternalStep) (now : U16) (rest : List Stimulus), s.schedule = .internal u now :: rest →
    (s.fatal = true ∨
      (u = .producerFetch ∧ (s.pstate = .wait ∨ s.tickPend = 0)) ∨
      (u = .burstWake ∧ (s.bstate ≠ .idle ∨ s.burstPend = 0)) ∨
      (u = .burstPacket ∧ s.bstate ≠ .pkt)) →
    step s = .next { s with schedule := rest, timeNow := now, resp := none, out := none }

/-- R180, R64: `rst` puts every element to its reset value in one step, from any state, keeps the configuration,
produces no response and emits nothing. -/
def Obligations.ResetStepGivesTheResetValues : Prop :=
  ∀ (s : State) (rest : List Stimulus), s.schedule = .reset :: rest →
    ∃ t : State, step s = .next t ∧ ResetValues t ∧ t.cfg = s.cfg ∧ t.resp = none ∧ t.out = none ∧
      t.schedule = rest

/-- R64 and R7 to R11: the reset state has the reset values and the default configuration CFG-D. -/
def Obligations.ResetStateIsTheDefaultInstance : Prop :=
  ResetValues State.reset ∧ State.reset.cfg.cap = 1024 ∧ State.reset.cfg.spp = 24 ∧ State.reset.cfg.thresh = 1024 ∧
    State.reset.cfg.maxp = 42 ∧ State.reset.cfg.ovh = 3 ∧ State.reset.cfg.pktBytes = 243

/-! ## Encoding -/

/-- A few words written out from R85 to R92 decode to what they stand for. -/
def Obligations.SpecWordsDecode : Prop :=
  decode 0x0100000000000000 = .instr .getMode ∧
  decode 0x0200000000000101 = .instr (.setMode 1 true) ∧
  decode 0x04000000000000FF = .instr (.readReg 0xFF) ∧
  decode 0x1200000000000100 = .instr (.linkSubscribe true false) ∧
  decode 0x1300000000008001 = .instr (.linkUnit 0x8001) ∧
  decode 0x20000003FFFE0001 = .instr (.sensorOk 0x0001 0xFFFE 0x0003) ∧
  decode 0x3100000000000000 = .instr .paceDone

/-- R84, R94: the decoder accepts exactly the words that fit a row of the opcode map. -/
def Obligations.DecoderAcceptsExactlyTheOpcodeMap : Prop :=
  ∀ w : Word64, (∃ i, decode w = .instr i) ↔ ∃ row ∈ opcodeRows, w &&& row.2 = row.1

/-- Decode of encode is the identity on every well-formed instruction, with every operand at every value. -/
def Obligations.DecodeOfEncodeIsTheInstruction : Prop :=
  ∀ i : Instr, i.wellFormed = true → decode (encode i) = .instr i

/-- Every accepted word is the encoding of what it decodes to: no two words mean the same instruction. -/
def Obligations.EncodeOfDecodeIsTheWord : Prop :=
  ∀ (w : Word64) (i : Instr), decode w = .instr i → encode i = w

/-! ## Invariants -/

/-- The invariant of every step boundary (OCC and ORDER, the memory's canonical form, live slots written, the burst
position, at most one posted wake, the fault state) holds after every step from every state that meets it. -/
def Obligations.EveryStepKeepsTheInvariant : Prop :=
  ∀ s t : State, s.Inv → step s = .next t → t.Inv

/-- The invariant holds at reset, in every configuration. -/
def Obligations.ResetMeetsTheInvariant : Prop :=
  ∀ c : Config, (State.resetOf c).Inv

/-- R109: `WC -_32 RC <= CAP` holds after reset and is kept by every step, by itself. -/
def Obligations.EveryStepKeepsTheOccupancyBound : Prop :=
  (∀ c : Config, ((State.resetOf c).wc - (State.resetOf c).rc).toNat ≤ 2 ^ c.capLog) ∧
  ∀ s t : State, (s.wc - s.rc).toNat ≤ 2 ^ s.cfg.capLog → step s = .next t → (t.wc - t.rc).toNat ≤ 2 ^ t.cfg.capLog

/-- The slot memory stays in canonical form and inside `SLOT[0..CAP-1]` (R65), whatever the step. -/
def Obligations.EveryStepKeepsTheMemoryCanonical : Prop :=
  ∀ s t : State, s.MemOk → step s = .next t → t.MemOk

/-- R163 to R165, R168: from a state that meets the invariant the fatal state is entered by a TICK on a full wake count
and by nothing else, with cause TICK_OVERFLOW and no other change of the block. -/
def Obligations.OnlyTickOverflowIsReachable : Prop :=
  ∀ s t : State, s.Inv → s.fatal = false → step s = .next t → t.fatal = true →
    s.nextInstr = some .tick ∧ s.tickPend.toNat = 0xFFFF ∧ t.arch = { s.arch with fatal := true, faultCause := 1 }

/-- R68, R69, R108: no step changes the record of a sample that is unread before and after it. -/
def Obligations.UnreadSamplesAreNeverOverwritten : Prop :=
  ∀ (s t : State) (c : U32), s.OccOk → step s = .next t →
    (c - s.rc).toNat < s.occ.toNat → (c - t.rc).toNat < t.occ.toNat →
    t.slotRead (slotOf c t.cfg) = s.slotRead (slotOf c s.cfg)

/-- R185: once idle with no wake posted and the occupancy at or above THRESH, no step but `rst` moves RC
or ends the stall. -/
def Obligations.OnlyResetEndsTheThresholdStall : Prop :=
  ∀ s t : State, s.Stalled → s.noReset → step s = .next t → t.Stalled ∧ t.rc = s.rc

/-- R103: the eager schedule reaches a point where no internal step is enabled, within `BURST_PEND + 2` internal steps. -/
def Obligations.EagerScheduleReachesQuiescence : Prop :=
  ∀ s : State, (State.settle (s.burstPend.toNat + 2) s).1.quiescent = true

/-! ## Rules about the whole machine -/

/-- R20, R95, R96: every step has a next state; it carries exactly one response word if it handled a request word and none
otherwise, with a defined CODE and 0 in bits 31:8. -/
def Obligations.EveryRequestGetsOneResponse : Prop :=
  ∀ s : State, ∃ t : State, step s = .next t ∧ (t.resp.isSome = s.nextWord.isSome) ∧
    ∀ r : Word64, t.resp = some r → r.toNat % 2 ^ 32 ≤ 5

/-- R58, R180: no step changes the configuration. -/
def Obligations.NoStepChangesTheConfiguration : Prop :=
  ∀ s t : State, step s = .next t → t.cfg = s.cfg

/-- R24, R26, R67: WC and the slots are written by SENSOR_OK only, and WC by adding 1. -/
def Obligations.OnlySensorOkWritesTheWriteSide : Prop :=
  ∀ s t : State, s.noReset → step s = .next t →
    (t.wc ≠ s.wc ∨ t.totalCnt ≠ s.totalCnt ∨ ∃ a, t.mem.read? a ≠ s.mem.read? a) →
    (∃ x y z, s.nextInstr = some (.sensorOk x y z)) ∧ t.wc = s.wc + 1

/-- R27, R67, R106, R137: RC is moved by the burst controller only, never past WC, and by whole packets unless it drains. -/
def Obligations.OnlyTheBurstControllerMovesTheReadCursor : Prop :=
  ∀ s t : State, s.noReset → step s = .next t → t.rc ≠ s.rc →
    (t.rc - s.rc).toNat ≤ s.occ.toNat ∧
    ((s.nextInternal = some .burstWake ∧ t.rc = s.wc) ∨
     ((s.nextInternal = some .burstPacket ∨ nextIsTxResult s) ∧ s.cfg.spp ∣ (t.rc - s.rc).toNat))

/-- R148: the transitions of MODE, and their only causes. -/
def Obligations.ModeChangesOnlyUnderThePermissionRule : Prop :=
  ∀ s t : State, s.noReset → step s = .next t → t.mode ≠ s.mode →
    (s.mode = .burst ∧ t.mode = .continuous ∧ s.nextInstr = some (.setMode 1 true)) ∨
    (s.mode = .continuous ∧ t.mode = .burst ∧
      ((∃ p, s.nextInstr = some (.setMode 0 p)) ∨ s.nextInstr = some (.setPower false)))

/-- R39 to R42, R154: CONN, SUB_DATA, SUB_HB and UNIT are written only by the four LINK words. -/
def Obligations.OnlyLinkWordsWriteTheLinkRecord : Prop :=
  ∀ s t : State, s.noReset → step s = .next t →
    (t.conn ≠ s.conn ∨ t.subData ≠ s.subData ∨ t.subHb ≠ s.subHb ∨ t.unit ≠ s.unit) →
    s.nextInstr = some .linkConnect ∨ s.nextInstr = some .linkDisconnect ∨
      (∃ sel en, s.nextInstr = some (.linkSubscribe sel en)) ∨ ∃ n, s.nextInstr = some (.linkUnit n)

/-- R49 to R57: each of the nine statistics counters is written by its own rule's step only, and only where that rule's
gate lets it: the producer or the burst controller waiting, room in the buffer or none (R121), the link gate (R128),
the unit gate (R129), a lost peer (R131). A drain has one of the two gates closed. -/
def Obligations.CountersHaveTheirWritersOnly : Prop :=
  ∀ s t : State, s.noReset → step s = .next t →
    let unitTooSmall : Prop := s.unit.toNat < (1 + 10 * s.cfg.spp + 2) + s.cfg.ovh
    let notReady : Prop := s.subData = false ∨ s.conn = false
    (t.totalCnt ≠ s.totalCnt →
      (∃ x y z, s.nextInstr = some (.sensorOk x y z)) ∧ s.pstate = .wait ∧ s.occ.toNat < 2 ^ s.cfg.capLog) ∧
    (t.overflowCnt ≠ s.overflowCnt →
      (∃ x y z, s.nextInstr = some (.sensorOk x y z)) ∧ s.pstate = .wait ∧ s.occ.toNat = 2 ^ s.cfg.capLog) ∧
    (t.readFailCnt ≠ s.readFailCnt → s.nextInstr = some .sensorErr ∧ s.pstate = .wait) ∧
    (t.drainDropCnt ≠ s.drainDropCnt → s.nextInternal = some .burstWake ∧ (notReady ∨ unitTooSmall)) ∧
    (t.notReadyCnt ≠ s.notReadyCnt → s.nextInternal = some .burstWake ∧ notReady) ∧
    (t.unitSkipCnt ≠ s.unitSkipCnt → s.nextInternal = some .burstWake ∧ ¬ notReady ∧ unitTooSmall) ∧
    (t.txOkCnt ≠ s.txOkCnt → s.nextInstr = some .txOk ∧ s.bstate = .txw) ∧
    (t.txFailCnt ≠ s.txFailCnt → s.nextInstr = some .txFail ∧ s.bstate = .txw) ∧
    (t.abortCnt ≠ s.abortCnt → s.nextInternal = some .burstPacket ∧ s.conn = false)

/-- R29 to R33, R116, R119, R120, R123: the trigger's and the producer's registers are written by their own steps only. -/
def Obligations.ProducerRegistersHaveTheirWritersOnly : Prop :=
  ∀ s t : State, s.noReset → step s = .next t →
    (t.tsSlot ≠ s.tsSlot → s.nextInstr = some .tick) ∧
    (t.tickPend ≠ s.tickPend → s.nextInstr = some .tick ∨ s.nextInternal = some .producerFetch) ∧
    (t.tsSnap ≠ s.tsSnap → s.nextInternal = some .producerFetch) ∧
    (t.seq ≠ s.seq → t.seq = s.seq + 1 ∧ ∃ x y z, s.nextInstr = some (.sensorOk x y z)) ∧
    (t.pstate ≠ s.pstate → s.nextInternal = some .producerFetch ∨ s.nextInstr = some .sensorErr ∨
      ∃ x y z, s.nextInstr = some (.sensorOk x y z))

/-- R126: the transitions of BSTATE, with their steps and conditions; those into B_IDLE from B_PKT or B_TXW have
the effects of `Finish` (R136), and a step from B_IDLE has none of them. -/
def Obligations.BurstStateFollowsTheTransitionTable : Prop :=
  ∀ s t : State, s.noReset → step s = .next t →
    (t.bstate ≠ s.bstate →
      (s.bstate = .idle ∧ t.bstate = .pkt ∧ s.nextInternal = some .burstWake ∧ s.subData = true ∧ s.conn = true ∧
        (1 + 10 * s.cfg.spp + 2) + s.cfg.ovh ≤ s.unit.toNat ∧ s.cfg.spp ≤ s.occ.toNat) ∨
      (s.bstate = .pkt ∧ t.bstate = .idle ∧ s.nextInternal = some .burstPacket ∧ s.conn = false) ∨
      (s.bstate = .pkt ∧ t.bstate = .txw ∧ s.nextInternal = some .burstPacket ∧ s.conn = true) ∨
      (s.bstate = .txw ∧ t.bstate = .idle ∧ nextIsTxResult s ∧ s.pktI + 1 = s.pktN) ∨
      (s.bstate = .txw ∧ t.bstate = .pace ∧ nextIsTxResult s ∧ s.pktI + 1 ≠ s.pktN ∧ s.mode = .burst) ∨
      (s.bstate = .txw ∧ t.bstate = .pkt ∧ nextIsTxResult s ∧ s.pktI + 1 ≠ s.pktN ∧ s.mode = .continuous) ∨
      (s.bstate = .pace ∧ t.bstate = .pkt ∧ s.nextInstr = some .paceDone)) ∧
    (s.bstate ≠ .idle → t.bstate = .idle →
      t.rc = s.rc + BitVec.ofNat 32 (t.pktI.toNat * s.cfg.spp) ∧ t.wstart = t.timeNow ∧ t.burstId = s.burstId + 1 ∧
      t.abortCnt = if s.bstate = .pkt then s.abortCnt + 1 else s.abortCnt) ∧
    (s.bstate = .idle → t.burstId = s.burstId ∧ t.wstart = s.wstart ∧ t.abortCnt = s.abortCnt)

/-- R140: a step of the burst controller writes only RC, BURST_PEND, its own state and its counters
(and the fatal state, by the assertion of R112, and PROTO_ERR where its word is not awaited, R166). -/
def Obligations.TheBurstControllerLeavesTheProducerAlone : Prop :=
  ∀ s t : State, nextIsBurstStep s → step s = .next t →
    t.arch = { s.arch with rc := t.rc, burstPend := t.burstPend, bstate := t.bstate, pktI := t.pktI, pktN := t.pktN,
                           burstId := t.burstId, wstart := t.wstart, drainDropCnt := t.drainDropCnt,
                           notReadyCnt := t.notReadyCnt, unitSkipCnt := t.unitSkipCnt, txOkCnt := t.txOkCnt,
                           txFailCnt := t.txFailCnt, abortCnt := t.abortCnt, protoErr := t.protoErr,
                           fatal := t.fatal, faultCause := t.faultCause } ∧
    ∀ a, t.slotByte a = s.slotByte a

/-- R46, R169, R170: while fatal, no step but `rst` changes anything of the block. -/
def Obligations.TheFatalStateIsFrozenUntilReset : Prop :=
  ∀ s t : State, s.fatal = true → s.noReset → step s = .next t → t.arch = s.arch

/-- R44, R48: PWR is written by SET_POWER only; PROTO_ERR is sticky and set only by a collaborator's event. -/
def Obligations.PowerLatchAndProtocolErrorWriters : Prop :=
  ∀ s t : State, s.noReset → step s = .next t →
    (t.pwr ≠ s.pwr → s.nextInstr = some (.setPower t.pwr)) ∧
    (s.protoErr = true → t.protoErr = true) ∧
    (s.protoErr = false → t.protoErr = true → ∃ i, s.nextInstr = some i ∧ s.mayArrive i = false)

/-- R99, R116, R146: SENSOR_REQ is emitted by PRODUCER_FETCH, TX_REQ by BURST_PACKET with a live peer,
PACE_REQ by a TX result in BURST mode with a packet left, and by nothing else. -/
def Obligations.OutputsComeFromTheirStepsOnly : Prop :=
  ∀ (s t : State) (o : Output), step s = .next t → t.out = some o →
    (o = .sensorReq ∧ s.nextInternal = some .producerFetch ∧ t.pstate = .wait) ∨
    (∃ bytes, o = .txReq bytes ∧ bytes.length = 1 + 10 * s.cfg.spp + 2 ∧
      s.nextInternal = some .burstPacket ∧ s.conn = true ∧ t.bstate = .txw) ∨
    (o = .paceReq ∧ nextIsTxResult s ∧ s.mode = .burst ∧ s.pktI + 1 ≠ s.pktN ∧ t.bstate = .pace)

/-- Every byte of the slot array reads as before after every request word but SENSOR_OK (R65, R67). -/
def Obligations.OtherRequestsLeaveTheSlotsAlone : Prop :=
  ∀ (i : Instr) (s t : State), (∀ x y z, i ≠ .sensorOk x y z) → exec i s = .next t →
    (∀ a, t.mem.read? a = s.mem.read? a ∧ t.slotByte a = s.slotByte a) ∧
    t.wc = s.wc ∧ t.seq = s.seq ∧ t.totalCnt = s.totalCnt ∧ t.cfg = s.cfg

/-! ## Ring buffer and framing -/

/-- R104: the slot of a cursor value, with no discontinuity at the wrap. -/
def Obligations.SlotIndexIsTheCursorModuloCapacity : Prop :=
  ∀ (c : Config) (x : U32), Config.index c x = x.toNat % 2 ^ c.capLog ∧
    Config.index c (x + 1) = (Config.index c x + 1) % 2 ^ c.capLog

/-- R141, R143, R145: the byte image of a packet, offset by offset. -/
def Obligations.PacketLayout : Prop :=
  ∀ (s : State) (base : U32) (id : Byte),
    let bytes := s.buildPacket base id
    let n := 1 + 10 * s.cfg.spp + 2
    let crc := (crc16 (bytes.take (n - 2))).toNat
    bytes.length = n ∧ bytes[0]? = some id ∧
    (∀ k < s.cfg.spp,
      let r := s.slotRead (slotOf (base + BitVec.ofNat 32 k) s.cfg)
      let field (j : Nat) (v : U16) : Prop :=
        bytes[1 + 10 * k + j]? = some (BitVec.ofNat 8 v.toNat) ∧
        bytes[1 + 10 * k + j + 1]? = some (BitVec.ofNat 8 (v.toNat / 256))
      field 0 r.sequence ∧ field 2 r.relativeTimestamp ∧ field 4 r.axisX ∧ field 6 r.axisY ∧ field 8 r.axisZ) ∧
    bytes[n - 2]? = some (BitVec.ofNat 8 crc) ∧ bytes[n - 1]? = some (BitVec.ofNat 8 (crc / 256))

/-- R144: the check value of the spec, and the packet CRC of its E1 record behind id 0x2A (spec/95, CK4). -/
def Obligations.CrcCheckValues : Prop :=
  crc16 [0x31, 0x32, 0x33, 0x34, 0x35, 0x36, 0x37, 0x38, 0x39] = 0x29B1 ∧ crc16 [] = 0xFFFF ∧
  crc16 [0x2A, 0x34, 0x12, 0x10, 0x00, 0x64, 0x00, 0x9C, 0xFF, 0x00, 0x80] = 0x5A34

/-- Flipping any single bit changes the checksum, for every body. R147 (b) states it of the source's property and checks
it for one body; the general property is the spec's own, marked there `from general knowledge, not in source`
(the last sentence of R147; spec/93_implementation_defined.md G3), and so is the polynomial (G1, G2). -/
def Obligations.CrcDetectsEverySingleBitFlip : Prop :=
  ∀ (before after : List Byte) (b : Byte) (i : Nat), i < 8 →
    crc16 (before ++ (b ^^^ (1#8 <<< i)) :: after) ≠ crc16 (before ++ b :: after)
end

