-- ==== Sys2Proof/Laws/State.lean ====
section
/-! SUPPORT. One lemma per field per named update of the state, each true by `rfl`, so that no later proof unfolds a record update. -/

namespace Sys2Proof.Machine

section
variable (s : State)

/-! `Respond` writes the `resp` port only (R95). -/

@[simp] theorem State.respond_cfg (c : RespCode) (d : U32) : (s.respond c d).cfg = s.cfg := rfl
@[simp] theorem State.respond_mem (c : RespCode) (d : U32) : (s.respond c d).mem = s.mem := rfl
@[simp] theorem State.respond_wc (c : RespCode) (d : U32) : (s.respond c d).wc = s.wc := rfl
@[simp] theorem State.respond_rc (c : RespCode) (d : U32) : (s.respond c d).rc = s.rc := rfl
@[simp] theorem State.respond_tsSlot (c : RespCode) (d : U32) : (s.respond c d).tsSlot = s.tsSlot := rfl
@[simp] theorem State.respond_tickPend (c : RespCode) (d : U32) : (s.respond c d).tickPend = s.tickPend := rfl
@[simp] theorem State.respond_pstate (c : RespCode) (d : U32) : (s.respond c d).pstate = s.pstate := rfl
@[simp] theorem State.respond_tsSnap (c : RespCode) (d : U32) : (s.respond c d).tsSnap = s.tsSnap := rfl
@[simp] theorem State.respond_seq (c : RespCode) (d : U32) : (s.respond c d).seq = s.seq := rfl
@[simp] theorem State.respond_bstate (c : RespCode) (d : U32) : (s.respond c d).bstate = s.bstate := rfl
@[simp] theorem State.respond_burstPend (c : RespCode) (d : U32) : (s.respond c d).burstPend = s.burstPend := rfl
@[simp] theorem State.respond_pktI (c : RespCode) (d : U32) : (s.respond c d).pktI = s.pktI := rfl
@[simp] theorem State.respond_pktN (c : RespCode) (d : U32) : (s.respond c d).pktN = s.pktN := rfl
@[simp] theorem State.respond_burstId (c : RespCode) (d : U32) : (s.respond c d).burstId = s.burstId := rfl
@[simp] theorem State.respond_wstart (c : RespCode) (d : U32) : (s.respond c d).wstart = s.wstart := rfl
@[simp] theorem State.respond_conn (c : RespCode) (d : U32) : (s.respond c d).conn = s.conn := rfl
@[simp] theorem State.respond_subData (c : RespCode) (d : U32) : (s.respond c d).subData = s.subData := rfl
@[simp] theorem State.respond_subHb (c : RespCode) (d : U32) : (s.respond c d).subHb = s.subHb := rfl
@[simp] theorem State.respond_unit (c : RespCode) (d : U32) : (s.respond c d).unit = s.unit := rfl
@[simp] theorem State.respond_mode (c : RespCode) (d : U32) : (s.respond c d).mode = s.mode := rfl
@[simp] theorem State.respond_pwr (c : RespCode) (d : U32) : (s.respond c d).pwr = s.pwr := rfl
@[simp] theorem State.respond_fatal (c : RespCode) (d : U32) : (s.respond c d).fatal = s.fatal := rfl
@[simp] theorem State.respond_faultCause (c : RespCode) (d : U32) : (s.respond c d).faultCause = s.faultCause := rfl
@[simp] theorem State.respond_protoErr (c : RespCode) (d : U32) : (s.respond c d).protoErr = s.protoErr := rfl
@[simp] theorem State.respond_totalCnt (c : RespCode) (d : U32) : (s.respond c d).totalCnt = s.totalCnt := rfl
@[simp] theorem State.respond_overflowCnt (c : RespCode) (d : U32) : (s.respond c d).overflowCnt = s.overflowCnt := rfl
@[simp] theorem State.respond_readFailCnt (c : RespCode) (d : U32) : (s.respond c d).readFailCnt = s.readFailCnt := rfl
@[simp] theorem State.respond_drainDropCnt (c : RespCode) (d : U32) : (s.respond c d).drainDropCnt = s.drainDropCnt := rfl
@[simp] theorem State.respond_notReadyCnt (c : RespCode) (d : U32) : (s.respond c d).notReadyCnt = s.notReadyCnt := rfl
@[simp] theorem State.respond_unitSkipCnt (c : RespCode) (d : U32) : (s.respond c d).unitSkipCnt = s.unitSkipCnt := rfl
@[simp] theorem State.respond_txOkCnt (c : RespCode) (d : U32) : (s.respond c d).txOkCnt = s.txOkCnt := rfl
@[simp] theorem State.respond_txFailCnt (c : RespCode) (d : U32) : (s.respond c d).txFailCnt = s.txFailCnt := rfl
@[simp] theorem State.respond_abortCnt (c : RespCode) (d : U32) : (s.respond c d).abortCnt = s.abortCnt := rfl
@[simp] theorem State.respond_resp (c : RespCode) (d : U32) : (s.respond c d).resp = some (responseWord c d) := rfl
@[simp] theorem State.respond_out (c : RespCode) (d : U32) : (s.respond c d).out = s.out := rfl
@[simp] theorem State.respond_timeNow (c : RespCode) (d : U32) : (s.respond c d).timeNow = s.timeNow := rfl
@[simp] theorem State.respond_schedule (c : RespCode) (d : U32) : (s.respond c d).schedule = s.schedule := rfl
@[simp] theorem State.respond_epoch (c : RespCode) (d : U32) : (s.respond c d).epoch = s.epoch := rfl

/-! `Emit` drives the output port only (R99). -/

@[simp] theorem State.emit_cfg (o : Output) : (s.emit o).cfg = s.cfg := rfl
@[simp] theorem State.emit_mem (o : Output) : (s.emit o).mem = s.mem := rfl
@[simp] theorem State.emit_wc (o : Output) : (s.emit o).wc = s.wc := rfl
@[simp] theorem State.emit_rc (o : Output) : (s.emit o).rc = s.rc := rfl
@[simp] theorem State.emit_tsSlot (o : Output) : (s.emit o).tsSlot = s.tsSlot := rfl
@[simp] theorem State.emit_tickPend (o : Output) : (s.emit o).tickPend = s.tickPend := rfl
@[simp] theorem State.emit_pstate (o : Output) : (s.emit o).pstate = s.pstate := rfl
@[simp] theorem State.emit_tsSnap (o : Output) : (s.emit o).tsSnap = s.tsSnap := rfl
@[simp] theorem State.emit_seq (o : Output) : (s.emit o).seq = s.seq := rfl
@[simp] theorem State.emit_bstate (o : Output) : (s.emit o).bstate = s.bstate := rfl
@[simp] theorem State.emit_burstPend (o : Output) : (s.emit o).burstPend = s.burstPend := rfl
@[simp] theorem State.emit_pktI (o : Output) : (s.emit o).pktI = s.pktI := rfl
@[simp] theorem State.emit_pktN (o : Output) : (s.emit o).pktN = s.pktN := rfl
@[simp] theorem State.emit_burstId (o : Output) : (s.emit o).burstId = s.burstId := rfl
@[simp] theorem State.emit_wstart (o : Output) : (s.emit o).wstart = s.wstart := rfl
@[simp] theorem State.emit_conn (o : Output) : (s.emit o).conn = s.conn := rfl
@[simp] theorem State.emit_subData (o : Output) : (s.emit o).subData = s.subData := rfl
@[simp] theorem State.emit_subHb (o : Output) : (s.emit o).subHb = s.subHb := rfl
@[simp] theorem State.emit_unit (o : Output) : (s.emit o).unit = s.unit := rfl
@[simp] theorem State.emit_mode (o : Output) : (s.emit o).mode = s.mode := rfl
@[simp] theorem State.emit_pwr (o : Output) : (s.emit o).pwr = s.pwr := rfl
@[simp] theorem State.emit_fatal (o : Output) : (s.emit o).fatal = s.fatal := rfl
@[simp] theorem State.emit_faultCause (o : Output) : (s.emit o).faultCause = s.faultCause := rfl
@[simp] theorem State.emit_protoErr (o : Output) : (s.emit o).protoErr = s.protoErr := rfl
@[simp] theorem State.emit_totalCnt (o : Output) : (s.emit o).totalCnt = s.totalCnt := rfl
@[simp] theorem State.emit_overflowCnt (o : Output) : (s.emit o).overflowCnt = s.overflowCnt := rfl
@[simp] theorem State.emit_readFailCnt (o : Output) : (s.emit o).readFailCnt = s.readFailCnt := rfl
@[simp] theorem State.emit_drainDropCnt (o : Output) : (s.emit o).drainDropCnt = s.drainDropCnt := rfl
@[simp] theorem State.emit_notReadyCnt (o : Output) : (s.emit o).notReadyCnt = s.notReadyCnt := rfl
@[simp] theorem State.emit_unitSkipCnt (o : Output) : (s.emit o).unitSkipCnt = s.unitSkipCnt := rfl
@[simp] theorem State.emit_txOkCnt (o : Output) : (s.emit o).txOkCnt = s.txOkCnt := rfl
@[simp] theorem State.emit_txFailCnt (o : Output) : (s.emit o).txFailCnt = s.txFailCnt := rfl
@[simp] theorem State.emit_abortCnt (o : Output) : (s.emit o).abortCnt = s.abortCnt := rfl
@[simp] theorem State.emit_resp (o : Output) : (s.emit o).resp = s.resp := rfl
@[simp] theorem State.emit_out (o : Output) : (s.emit o).out = some o := rfl
@[simp] theorem State.emit_timeNow (o : Output) : (s.emit o).timeNow = s.timeNow := rfl
@[simp] theorem State.emit_schedule (o : Output) : (s.emit o).schedule = s.schedule := rfl
@[simp] theorem State.emit_epoch (o : Output) : (s.emit o).epoch = s.epoch := rfl

/-! `raise Fatal` writes FATAL and FAULT_CAUSE only (R168). -/

@[simp] theorem State.raiseFatal_cfg (c : FatalCause) : (s.raiseFatal c).cfg = s.cfg := rfl
@[simp] theorem State.raiseFatal_mem (c : FatalCause) : (s.raiseFatal c).mem = s.mem := rfl
@[simp] theorem State.raiseFatal_wc (c : FatalCause) : (s.raiseFatal c).wc = s.wc := rfl
@[simp] theorem State.raiseFatal_rc (c : FatalCause) : (s.raiseFatal c).rc = s.rc := rfl
@[simp] theorem State.raiseFatal_tsSlot (c : FatalCause) : (s.raiseFatal c).tsSlot = s.tsSlot := rfl
@[simp] theorem State.raiseFatal_tickPend (c : FatalCause) : (s.raiseFatal c).tickPend = s.tickPend := rfl
@[simp] theorem State.raiseFatal_pstate (c : FatalCause) : (s.raiseFatal c).pstate = s.pstate := rfl
@[simp] theorem State.raiseFatal_tsSnap (c : FatalCause) : (s.raiseFatal c).tsSnap = s.tsSnap := rfl
@[simp] theorem State.raiseFatal_seq (c : FatalCause) : (s.raiseFatal c).seq = s.seq := rfl
@[simp] theorem State.raiseFatal_bstate (c : FatalCause) : (s.raiseFatal c).bstate = s.bstate := rfl
@[simp] theorem State.raiseFatal_burstPend (c : FatalCause) : (s.raiseFatal c).burstPend = s.burstPend := rfl
@[simp] theorem State.raiseFatal_pktI (c : FatalCause) : (s.raiseFatal c).pktI = s.pktI := rfl
@[simp] theorem State.raiseFatal_pktN (c : FatalCause) : (s.raiseFatal c).pktN = s.pktN := rfl
@[simp] theorem State.raiseFatal_burstId (c : FatalCause) : (s.raiseFatal c).burstId = s.burstId := rfl
@[simp] theorem State.raiseFatal_wstart (c : FatalCause) : (s.raiseFatal c).wstart = s.wstart := rfl
@[simp] theorem State.raiseFatal_conn (c : FatalCause) : (s.raiseFatal c).conn = s.conn := rfl
@[simp] theorem State.raiseFatal_subData (c : FatalCause) : (s.raiseFatal c).subData = s.subData := rfl
@[simp] theorem State.raiseFatal_subHb (c : FatalCause) : (s.raiseFatal c).subHb = s.subHb := rfl
@[simp] theorem State.raiseFatal_unit (c : FatalCause) : (s.raiseFatal c).unit = s.unit := rfl
@[simp] theorem State.raiseFatal_mode (c : FatalCause) : (s.raiseFatal c).mode = s.mode := rfl
@[simp] theorem State.raiseFatal_pwr (c : FatalCause) : (s.raiseFatal c).pwr = s.pwr := rfl
@[simp] theorem State.raiseFatal_fatal (c : FatalCause) : (s.raiseFatal c).fatal = true := rfl
@[simp] theorem State.raiseFatal_faultCause (c : FatalCause) : (s.raiseFatal c).faultCause = c.code := rfl
@[simp] theorem State.raiseFatal_protoErr (c : FatalCause) : (s.raiseFatal c).protoErr = s.protoErr := rfl
@[simp] theorem State.raiseFatal_totalCnt (c : FatalCause) : (s.raiseFatal c).totalCnt = s.totalCnt := rfl
@[simp] theorem State.raiseFatal_overflowCnt (c : FatalCause) : (s.raiseFatal c).overflowCnt = s.overflowCnt := rfl
@[simp] theorem State.raiseFatal_readFailCnt (c : FatalCause) : (s.raiseFatal c).readFailCnt = s.readFailCnt := rfl
@[simp] theorem State.raiseFatal_drainDropCnt (c : FatalCause) : (s.raiseFatal c).drainDropCnt = s.drainDropCnt := rfl
@[simp] theorem State.raiseFatal_notReadyCnt (c : FatalCause) : (s.raiseFatal c).notReadyCnt = s.notReadyCnt := rfl
@[simp] theorem State.raiseFatal_unitSkipCnt (c : FatalCause) : (s.raiseFatal c).unitSkipCnt = s.unitSkipCnt := rfl
@[simp] theorem State.raiseFatal_txOkCnt (c : FatalCause) : (s.raiseFatal c).txOkCnt = s.txOkCnt := rfl
@[simp] theorem State.raiseFatal_txFailCnt (c : FatalCause) : (s.raiseFatal c).txFailCnt = s.txFailCnt := rfl
@[simp] theorem State.raiseFatal_abortCnt (c : FatalCause) : (s.raiseFatal c).abortCnt = s.abortCnt := rfl
@[simp] theorem State.raiseFatal_resp (c : FatalCause) : (s.raiseFatal c).resp = s.resp := rfl
@[simp] theorem State.raiseFatal_out (c : FatalCause) : (s.raiseFatal c).out = s.out := rfl
@[simp] theorem State.raiseFatal_timeNow (c : FatalCause) : (s.raiseFatal c).timeNow = s.timeNow := rfl
@[simp] theorem State.raiseFatal_schedule (c : FatalCause) : (s.raiseFatal c).schedule = s.schedule := rfl
@[simp] theorem State.raiseFatal_epoch (c : FatalCause) : (s.raiseFatal c).epoch = s.epoch := rfl

/-! `UnexpectedEvent` writes PROTO_ERR and answers UNEXPECTED (R166). -/

@[simp] theorem State.unexpectedEvent_cfg : s.unexpectedEvent.cfg = s.cfg := rfl
@[simp] theorem State.unexpectedEvent_mem : s.unexpectedEvent.mem = s.mem := rfl
@[simp] theorem State.unexpectedEvent_wc : s.unexpectedEvent.wc = s.wc := rfl
@[simp] theorem State.unexpectedEvent_rc : s.unexpectedEvent.rc = s.rc := rfl
@[simp] theorem State.unexpectedEvent_tsSlot : s.unexpectedEvent.tsSlot = s.tsSlot := rfl
@[simp] theorem State.unexpectedEvent_tickPend : s.unexpectedEvent.tickPend = s.tickPend := rfl
@[simp] theorem State.unexpectedEvent_pstate : s.unexpectedEvent.pstate = s.pstate := rfl
@[simp] theorem State.unexpectedEvent_tsSnap : s.unexpectedEvent.tsSnap = s.tsSnap := rfl
@[simp] theorem State.unexpectedEvent_seq : s.unexpectedEvent.seq = s.seq := rfl
@[simp] theorem State.unexpectedEvent_bstate : s.unexpectedEvent.bstate = s.bstate := rfl
@[simp] theorem State.unexpectedEvent_burstPend : s.unexpectedEvent.burstPend = s.burstPend := rfl
@[simp] theorem State.unexpectedEvent_pktI : s.unexpectedEvent.pktI = s.pktI := rfl
@[simp] theorem State.unexpectedEvent_pktN : s.unexpectedEvent.pktN = s.pktN := rfl
@[simp] theorem State.unexpectedEvent_burstId : s.unexpectedEvent.burstId = s.burstId := rfl
@[simp] theorem State.unexpectedEvent_wstart : s.unexpectedEvent.wstart = s.wstart := rfl
@[simp] theorem State.unexpectedEvent_conn : s.unexpectedEvent.conn = s.conn := rfl
@[simp] theorem State.unexpectedEvent_subData : s.unexpectedEvent.subData = s.subData := rfl
@[simp] theorem State.unexpectedEvent_subHb : s.unexpectedEvent.subHb = s.subHb := rfl
@[simp] theorem State.unexpectedEvent_unit : s.unexpectedEvent.unit = s.unit := rfl
@[simp] theorem State.unexpectedEvent_mode : s.unexpectedEvent.mode = s.mode := rfl
@[simp] theorem State.unexpectedEvent_pwr : s.unexpectedEvent.pwr = s.pwr := rfl
@[simp] theorem State.unexpectedEvent_fatal : s.unexpectedEvent.fatal = s.fatal := rfl
@[simp] theorem State.unexpectedEvent_faultCause : s.unexpectedEvent.faultCause = s.faultCause := rfl
@[simp] theorem State.unexpectedEvent_protoErr : s.unexpectedEvent.protoErr = true := rfl
@[simp] theorem State.unexpectedEvent_totalCnt : s.unexpectedEvent.totalCnt = s.totalCnt := rfl
@[simp] theorem State.unexpectedEvent_overflowCnt : s.unexpectedEvent.overflowCnt = s.overflowCnt := rfl
@[simp] theorem State.unexpectedEvent_readFailCnt : s.unexpectedEvent.readFailCnt = s.readFailCnt := rfl
@[simp] theorem State.unexpectedEvent_drainDropCnt : s.unexpectedEvent.drainDropCnt = s.drainDropCnt := rfl
@[simp] theorem State.unexpectedEvent_notReadyCnt : s.unexpectedEvent.notReadyCnt = s.notReadyCnt := rfl
@[simp] theorem State.unexpectedEvent_unitSkipCnt : s.unexpectedEvent.unitSkipCnt = s.unitSkipCnt := rfl
@[simp] theorem State.unexpectedEvent_txOkCnt : s.unexpectedEvent.txOkCnt = s.txOkCnt := rfl
@[simp] theorem State.unexpectedEvent_txFailCnt : s.unexpectedEvent.txFailCnt = s.txFailCnt := rfl
@[simp] theorem State.unexpectedEvent_abortCnt : s.unexpectedEvent.abortCnt = s.abortCnt := rfl
@[simp] theorem State.unexpectedEvent_resp : s.unexpectedEvent.resp = some (responseWord .unexpected 0) := rfl
@[simp] theorem State.unexpectedEvent_out : s.unexpectedEvent.out = s.out := rfl
@[simp] theorem State.unexpectedEvent_timeNow : s.unexpectedEvent.timeNow = s.timeNow := rfl
@[simp] theorem State.unexpectedEvent_schedule : s.unexpectedEvent.schedule = s.schedule := rfl
@[simp] theorem State.unexpectedEvent_epoch : s.unexpectedEvent.epoch = s.epoch := rfl

/-! An ILLEGAL word is answered and changes nothing else (R94). -/

@[simp] theorem State.answerIllegal_cfg : s.answerIllegal.cfg = s.cfg := rfl
@[simp] theorem State.answerIllegal_mem : s.answerIllegal.mem = s.mem := rfl
@[simp] theorem State.answerIllegal_wc : s.answerIllegal.wc = s.wc := rfl
@[simp] theorem State.answerIllegal_rc : s.answerIllegal.rc = s.rc := rfl
@[simp] theorem State.answerIllegal_tsSlot : s.answerIllegal.tsSlot = s.tsSlot := rfl
@[simp] theorem State.answerIllegal_tickPend : s.answerIllegal.tickPend = s.tickPend := rfl
@[simp] theorem State.answerIllegal_pstate : s.answerIllegal.pstate = s.pstate := rfl
@[simp] theorem State.answerIllegal_tsSnap : s.answerIllegal.tsSnap = s.tsSnap := rfl
@[simp] theorem State.answerIllegal_seq : s.answerIllegal.seq = s.seq := rfl
@[simp] theorem State.answerIllegal_bstate : s.answerIllegal.bstate = s.bstate := rfl
@[simp] theorem State.answerIllegal_burstPend : s.answerIllegal.burstPend = s.burstPend := rfl
@[simp] theorem State.answerIllegal_pktI : s.answerIllegal.pktI = s.pktI := rfl
@[simp] theorem State.answerIllegal_pktN : s.answerIllegal.pktN = s.pktN := rfl
@[simp] theorem State.answerIllegal_burstId : s.answerIllegal.burstId = s.burstId := rfl
@[simp] theorem State.answerIllegal_wstart : s.answerIllegal.wstart = s.wstart := rfl
@[simp] theorem State.answerIllegal_conn : s.answerIllegal.conn = s.conn := rfl
@[simp] theorem State.answerIllegal_subData : s.answerIllegal.subData = s.subData := rfl
@[simp] theorem State.answerIllegal_subHb : s.answerIllegal.subHb = s.subHb := rfl
@[simp] theorem State.answerIllegal_unit : s.answerIllegal.unit = s.unit := rfl
@[simp] theorem State.answerIllegal_mode : s.answerIllegal.mode = s.mode := rfl
@[simp] theorem State.answerIllegal_pwr : s.answerIllegal.pwr = s.pwr := rfl
@[simp] theorem State.answerIllegal_fatal : s.answerIllegal.fatal = s.fatal := rfl
@[simp] theorem State.answerIllegal_faultCause : s.answerIllegal.faultCause = s.faultCause := rfl
@[simp] theorem State.answerIllegal_protoErr : s.answerIllegal.protoErr = s.protoErr := rfl
@[simp] theorem State.answerIllegal_totalCnt : s.answerIllegal.totalCnt = s.totalCnt := rfl
@[simp] theorem State.answerIllegal_overflowCnt : s.answerIllegal.overflowCnt = s.overflowCnt := rfl
@[simp] theorem State.answerIllegal_readFailCnt : s.answerIllegal.readFailCnt = s.readFailCnt := rfl
@[simp] theorem State.answerIllegal_drainDropCnt : s.answerIllegal.drainDropCnt = s.drainDropCnt := rfl
@[simp] theorem State.answerIllegal_notReadyCnt : s.answerIllegal.notReadyCnt = s.notReadyCnt := rfl
@[simp] theorem State.answerIllegal_unitSkipCnt : s.answerIllegal.unitSkipCnt = s.unitSkipCnt := rfl
@[simp] theorem State.answerIllegal_txOkCnt : s.answerIllegal.txOkCnt = s.txOkCnt := rfl
@[simp] theorem State.answerIllegal_txFailCnt : s.answerIllegal.txFailCnt = s.txFailCnt := rfl
@[simp] theorem State.answerIllegal_abortCnt : s.answerIllegal.abortCnt = s.abortCnt := rfl
@[simp] theorem State.answerIllegal_resp : s.answerIllegal.resp = some (responseWord .illegal 0) := rfl
@[simp] theorem State.answerIllegal_out : s.answerIllegal.out = s.out := rfl
@[simp] theorem State.answerIllegal_timeNow : s.answerIllegal.timeNow = s.timeNow := rfl
@[simp] theorem State.answerIllegal_schedule : s.answerIllegal.schedule = s.schedule := rfl
@[simp] theorem State.answerIllegal_epoch : s.answerIllegal.epoch = s.epoch := rfl

/-! A step begins with its bus value, the rest of the schedule and clear ports. -/

@[simp] theorem State.beginStep_cfg (n : U16) (r : List Stimulus) : (s.beginStep n r).cfg = s.cfg := rfl
@[simp] theorem State.beginStep_mem (n : U16) (r : List Stimulus) : (s.beginStep n r).mem = s.mem := rfl
@[simp] theorem State.beginStep_wc (n : U16) (r : List Stimulus) : (s.beginStep n r).wc = s.wc := rfl
@[simp] theorem State.beginStep_rc (n : U16) (r : List Stimulus) : (s.beginStep n r).rc = s.rc := rfl
@[simp] theorem State.beginStep_tsSlot (n : U16) (r : List Stimulus) : (s.beginStep n r).tsSlot = s.tsSlot := rfl
@[simp] theorem State.beginStep_tickPend (n : U16) (r : List Stimulus) : (s.beginStep n r).tickPend = s.tickPend := rfl
@[simp] theorem State.beginStep_pstate (n : U16) (r : List Stimulus) : (s.beginStep n r).pstate = s.pstate := rfl
@[simp] theorem State.beginStep_tsSnap (n : U16) (r : List Stimulus) : (s.beginStep n r).tsSnap = s.tsSnap := rfl
@[simp] theorem State.beginStep_seq (n : U16) (r : List Stimulus) : (s.beginStep n r).seq = s.seq := rfl
@[simp] theorem State.beginStep_bstate (n : U16) (r : List Stimulus) : (s.beginStep n r).bstate = s.bstate := rfl
@[simp] theorem State.beginStep_burstPend (n : U16) (r : List Stimulus) : (s.beginStep n r).burstPend = s.burstPend := rfl
@[simp] theorem State.beginStep_pktI (n : U16) (r : List Stimulus) : (s.beginStep n r).pktI = s.pktI := rfl
@[simp] theorem State.beginStep_pktN (n : U16) (r : List Stimulus) : (s.beginStep n r).pktN = s.pktN := rfl
@[simp] theorem State.beginStep_burstId (n : U16) (r : List Stimulus) : (s.beginStep n r).burstId = s.burstId := rfl
@[simp] theorem State.beginStep_wstart (n : U16) (r : List Stimulus) : (s.beginStep n r).wstart = s.wstart := rfl
@[simp] theorem State.beginStep_conn (n : U16) (r : List Stimulus) : (s.beginStep n r).conn = s.conn := rfl
@[simp] theorem State.beginStep_subData (n : U16) (r : List Stimulus) : (s.beginStep n r).subData = s.subData := rfl
@[simp] theorem State.beginStep_subHb (n : U16) (r : List Stimulus) : (s.beginStep n r).subHb = s.subHb := rfl
@[simp] theorem State.beginStep_unit (n : U16) (r : List Stimulus) : (s.beginStep n r).unit = s.unit := rfl
@[simp] theorem State.beginStep_mode (n : U16) (r : List Stimulus) : (s.beginStep n r).mode = s.mode := rfl
@[simp] theorem State.beginStep_pwr (n : U16) (r : List Stimulus) : (s.beginStep n r).pwr = s.pwr := rfl
@[simp] theorem State.beginStep_fatal (n : U16) (r : List Stimulus) : (s.beginStep n r).fatal = s.fatal := rfl
@[simp] theorem State.beginStep_faultCause (n : U16) (r : List Stimulus) : (s.beginStep n r).faultCause = s.faultCause := rfl
@[simp] theorem State.beginStep_protoErr (n : U16) (r : List Stimulus) : (s.beginStep n r).protoErr = s.protoErr := rfl
@[simp] theorem State.beginStep_totalCnt (n : U16) (r : List Stimulus) : (s.beginStep n r).totalCnt = s.totalCnt := rfl
@[simp] theorem State.beginStep_overflowCnt (n : U16) (r : List Stimulus) : (s.beginStep n r).overflowCnt = s.overflowCnt := rfl
@[simp] theorem State.beginStep_readFailCnt (n : U16) (r : List Stimulus) : (s.beginStep n r).readFailCnt = s.readFailCnt := rfl
@[simp] theorem State.beginStep_drainDropCnt (n : U16) (r : List Stimulus) : (s.beginStep n r).drainDropCnt = s.drainDropCnt := rfl
@[simp] theorem State.beginStep_notReadyCnt (n : U16) (r : List Stimulus) : (s.beginStep n r).notReadyCnt = s.notReadyCnt := rfl
@[simp] theorem State.beginStep_unitSkipCnt (n : U16) (r : List Stimulus) : (s.beginStep n r).unitSkipCnt = s.unitSkipCnt := rfl
@[simp] theorem State.beginStep_txOkCnt (n : U16) (r : List Stimulus) : (s.beginStep n r).txOkCnt = s.txOkCnt := rfl
@[simp] theorem State.beginStep_txFailCnt (n : U16) (r : List Stimulus) : (s.beginStep n r).txFailCnt = s.txFailCnt := rfl
@[simp] theorem State.beginStep_abortCnt (n : U16) (r : List Stimulus) : (s.beginStep n r).abortCnt = s.abortCnt := rfl
@[simp] theorem State.beginStep_resp (n : U16) (r : List Stimulus) : (s.beginStep n r).resp = none := rfl
@[simp] theorem State.beginStep_out (n : U16) (r : List Stimulus) : (s.beginStep n r).out = none := rfl
@[simp] theorem State.beginStep_timeNow (n : U16) (r : List Stimulus) : (s.beginStep n r).timeNow = n := rfl
@[simp] theorem State.beginStep_schedule (n : U16) (r : List Stimulus) : (s.beginStep n r).schedule = r := rfl
@[simp] theorem State.beginStep_epoch (n : U16) (r : List Stimulus) : (s.beginStep n r).epoch = s.epoch := rfl

/-! `SlotWrite` writes one slot only (R19, R76). -/

@[simp] theorem State.slotWrite_cfg (i : Nat) (r : Sample) : (s.slotWrite i r).cfg = s.cfg := rfl
@[simp] theorem State.slotWrite_mem (i : Nat) (r : Sample) : (s.slotWrite i r).mem = s.mem.writeBytes (slotAddr i) r.bytes := rfl
@[simp] theorem State.slotWrite_wc (i : Nat) (r : Sample) : (s.slotWrite i r).wc = s.wc := rfl
@[simp] theorem State.slotWrite_rc (i : Nat) (r : Sample) : (s.slotWrite i r).rc = s.rc := rfl
@[simp] theorem State.slotWrite_tsSlot (i : Nat) (r : Sample) : (s.slotWrite i r).tsSlot = s.tsSlot := rfl
@[simp] theorem State.slotWrite_tickPend (i : Nat) (r : Sample) : (s.slotWrite i r).tickPend = s.tickPend := rfl
@[simp] theorem State.slotWrite_pstate (i : Nat) (r : Sample) : (s.slotWrite i r).pstate = s.pstate := rfl
@[simp] theorem State.slotWrite_tsSnap (i : Nat) (r : Sample) : (s.slotWrite i r).tsSnap = s.tsSnap := rfl
@[simp] theorem State.slotWrite_seq (i : Nat) (r : Sample) : (s.slotWrite i r).seq = s.seq := rfl
@[simp] theorem State.slotWrite_bstate (i : Nat) (r : Sample) : (s.slotWrite i r).bstate = s.bstate := rfl
@[simp] theorem State.slotWrite_burstPend (i : Nat) (r : Sample) : (s.slotWrite i r).burstPend = s.burstPend := rfl
@[simp] theorem State.slotWrite_pktI (i : Nat) (r : Sample) : (s.slotWrite i r).pktI = s.pktI := rfl
@[simp] theorem State.slotWrite_pktN (i : Nat) (r : Sample) : (s.slotWrite i r).pktN = s.pktN := rfl
@[simp] theorem State.slotWrite_burstId (i : Nat) (r : Sample) : (s.slotWrite i r).burstId = s.burstId := rfl
@[simp] theorem State.slotWrite_wstart (i : Nat) (r : Sample) : (s.slotWrite i r).wstart = s.wstart := rfl
@[simp] theorem State.slotWrite_conn (i : Nat) (r : Sample) : (s.slotWrite i r).conn = s.conn := rfl
@[simp] theorem State.slotWrite_subData (i : Nat) (r : Sample) : (s.slotWrite i r).subData = s.subData := rfl
@[simp] theorem State.slotWrite_subHb (i : Nat) (r : Sample) : (s.slotWrite i r).subHb = s.subHb := rfl
@[simp] theorem State.slotWrite_unit (i : Nat) (r : Sample) : (s.slotWrite i r).unit = s.unit := rfl
@[simp] theorem State.slotWrite_mode (i : Nat) (r : Sample) : (s.slotWrite i r).mode = s.mode := rfl
@[simp] theorem State.slotWrite_pwr (i : Nat) (r : Sample) : (s.slotWrite i r).pwr = s.pwr := rfl
@[simp] theorem State.slotWrite_fatal (i : Nat) (r : Sample) : (s.slotWrite i r).fatal = s.fatal := rfl
@[simp] theorem State.slotWrite_faultCause (i : Nat) (r : Sample) : (s.slotWrite i r).faultCause = s.faultCause := rfl
@[simp] theorem State.slotWrite_protoErr (i : Nat) (r : Sample) : (s.slotWrite i r).protoErr = s.protoErr := rfl
@[simp] theorem State.slotWrite_totalCnt (i : Nat) (r : Sample) : (s.slotWrite i r).totalCnt = s.totalCnt := rfl
@[simp] theorem State.slotWrite_overflowCnt (i : Nat) (r : Sample) : (s.slotWrite i r).overflowCnt = s.overflowCnt := rfl
@[simp] theorem State.slotWrite_readFailCnt (i : Nat) (r : Sample) : (s.slotWrite i r).readFailCnt = s.readFailCnt := rfl
@[simp] theorem State.slotWrite_drainDropCnt (i : Nat) (r : Sample) : (s.slotWrite i r).drainDropCnt = s.drainDropCnt := rfl
@[simp] theorem State.slotWrite_notReadyCnt (i : Nat) (r : Sample) : (s.slotWrite i r).notReadyCnt = s.notReadyCnt := rfl
@[simp] theorem State.slotWrite_unitSkipCnt (i : Nat) (r : Sample) : (s.slotWrite i r).unitSkipCnt = s.unitSkipCnt := rfl
@[simp] theorem State.slotWrite_txOkCnt (i : Nat) (r : Sample) : (s.slotWrite i r).txOkCnt = s.txOkCnt := rfl
@[simp] theorem State.slotWrite_txFailCnt (i : Nat) (r : Sample) : (s.slotWrite i r).txFailCnt = s.txFailCnt := rfl
@[simp] theorem State.slotWrite_abortCnt (i : Nat) (r : Sample) : (s.slotWrite i r).abortCnt = s.abortCnt := rfl
@[simp] theorem State.slotWrite_resp (i : Nat) (r : Sample) : (s.slotWrite i r).resp = s.resp := rfl
@[simp] theorem State.slotWrite_out (i : Nat) (r : Sample) : (s.slotWrite i r).out = s.out := rfl
@[simp] theorem State.slotWrite_timeNow (i : Nat) (r : Sample) : (s.slotWrite i r).timeNow = s.timeNow := rfl
@[simp] theorem State.slotWrite_schedule (i : Nat) (r : Sample) : (s.slotWrite i r).schedule = s.schedule := rfl
@[simp] theorem State.slotWrite_epoch (i : Nat) (r : Sample) : (s.slotWrite i r).epoch = s.epoch := rfl

/-! `Push` writes one slot, WC and TOTAL_CNT (R107). -/

@[simp] theorem State.push_cfg (r : Sample) : (s.push r).cfg = s.cfg := rfl
@[simp] theorem State.push_mem (r : Sample) : (s.push r).mem = s.mem.writeBytes (slotAddr (Config.index s.cfg s.wc)) r.bytes := rfl
@[simp] theorem State.push_wc (r : Sample) : (s.push r).wc = s.wc + 1 := rfl
@[simp] theorem State.push_rc (r : Sample) : (s.push r).rc = s.rc := rfl
@[simp] theorem State.push_tsSlot (r : Sample) : (s.push r).tsSlot = s.tsSlot := rfl
@[simp] theorem State.push_tickPend (r : Sample) : (s.push r).tickPend = s.tickPend := rfl
@[simp] theorem State.push_pstate (r : Sample) : (s.push r).pstate = s.pstate := rfl
@[simp] theorem State.push_tsSnap (r : Sample) : (s.push r).tsSnap = s.tsSnap := rfl
@[simp] theorem State.push_seq (r : Sample) : (s.push r).seq = s.seq := rfl
@[simp] theorem State.push_bstate (r : Sample) : (s.push r).bstate = s.bstate := rfl
@[simp] theorem State.push_burstPend (r : Sample) : (s.push r).burstPend = s.burstPend := rfl
@[simp] theorem State.push_pktI (r : Sample) : (s.push r).pktI = s.pktI := rfl
@[simp] theorem State.push_pktN (r : Sample) : (s.push r).pktN = s.pktN := rfl
@[simp] theorem State.push_burstId (r : Sample) : (s.push r).burstId = s.burstId := rfl
@[simp] theorem State.push_wstart (r : Sample) : (s.push r).wstart = s.wstart := rfl
@[simp] theorem State.push_conn (r : Sample) : (s.push r).conn = s.conn := rfl
@[simp] theorem State.push_subData (r : Sample) : (s.push r).subData = s.subData := rfl
@[simp] theorem State.push_subHb (r : Sample) : (s.push r).subHb = s.subHb := rfl
@[simp] theorem State.push_unit (r : Sample) : (s.push r).unit = s.unit := rfl
@[simp] theorem State.push_mode (r : Sample) : (s.push r).mode = s.mode := rfl
@[simp] theorem State.push_pwr (r : Sample) : (s.push r).pwr = s.pwr := rfl
@[simp] theorem State.push_fatal (r : Sample) : (s.push r).fatal = s.fatal := rfl
@[simp] theorem State.push_faultCause (r : Sample) : (s.push r).faultCause = s.faultCause := rfl
@[simp] theorem State.push_protoErr (r : Sample) : (s.push r).protoErr = s.protoErr := rfl
@[simp] theorem State.push_totalCnt (r : Sample) : (s.push r).totalCnt = s.totalCnt + 1 := rfl
@[simp] theorem State.push_overflowCnt (r : Sample) : (s.push r).overflowCnt = s.overflowCnt := rfl
@[simp] theorem State.push_readFailCnt (r : Sample) : (s.push r).readFailCnt = s.readFailCnt := rfl
@[simp] theorem State.push_drainDropCnt (r : Sample) : (s.push r).drainDropCnt = s.drainDropCnt := rfl
@[simp] theorem State.push_notReadyCnt (r : Sample) : (s.push r).notReadyCnt = s.notReadyCnt := rfl
@[simp] theorem State.push_unitSkipCnt (r : Sample) : (s.push r).unitSkipCnt = s.unitSkipCnt := rfl
@[simp] theorem State.push_txOkCnt (r : Sample) : (s.push r).txOkCnt = s.txOkCnt := rfl
@[simp] theorem State.push_txFailCnt (r : Sample) : (s.push r).txFailCnt = s.txFailCnt := rfl
@[simp] theorem State.push_abortCnt (r : Sample) : (s.push r).abortCnt = s.abortCnt := rfl
@[simp] theorem State.push_resp (r : Sample) : (s.push r).resp = s.resp := rfl
@[simp] theorem State.push_out (r : Sample) : (s.push r).out = s.out := rfl
@[simp] theorem State.push_timeNow (r : Sample) : (s.push r).timeNow = s.timeNow := rfl
@[simp] theorem State.push_schedule (r : Sample) : (s.push r).schedule = s.schedule := rfl
@[simp] theorem State.push_epoch (r : Sample) : (s.push r).epoch = s.epoch := rfl

/-! `DrainAll` writes RC and DRAIN_DROP_CNT (R113). -/

@[simp] theorem State.drainAll_cfg : s.drainAll.cfg = s.cfg := rfl
@[simp] theorem State.drainAll_mem : s.drainAll.mem = s.mem := rfl
@[simp] theorem State.drainAll_wc : s.drainAll.wc = s.wc := rfl
@[simp] theorem State.drainAll_rc : s.drainAll.rc = s.wc := rfl
@[simp] theorem State.drainAll_tsSlot : s.drainAll.tsSlot = s.tsSlot := rfl
@[simp] theorem State.drainAll_tickPend : s.drainAll.tickPend = s.tickPend := rfl
@[simp] theorem State.drainAll_pstate : s.drainAll.pstate = s.pstate := rfl
@[simp] theorem State.drainAll_tsSnap : s.drainAll.tsSnap = s.tsSnap := rfl
@[simp] theorem State.drainAll_seq : s.drainAll.seq = s.seq := rfl
@[simp] theorem State.drainAll_bstate : s.drainAll.bstate = s.bstate := rfl
@[simp] theorem State.drainAll_burstPend : s.drainAll.burstPend = s.burstPend := rfl
@[simp] theorem State.drainAll_pktI : s.drainAll.pktI = s.pktI := rfl
@[simp] theorem State.drainAll_pktN : s.drainAll.pktN = s.pktN := rfl
@[simp] theorem State.drainAll_burstId : s.drainAll.burstId = s.burstId := rfl
@[simp] theorem State.drainAll_wstart : s.drainAll.wstart = s.wstart := rfl
@[simp] theorem State.drainAll_conn : s.drainAll.conn = s.conn := rfl
@[simp] theorem State.drainAll_subData : s.drainAll.subData = s.subData := rfl
@[simp] theorem State.drainAll_subHb : s.drainAll.subHb = s.subHb := rfl
@[simp] theorem State.drainAll_unit : s.drainAll.unit = s.unit := rfl
@[simp] theorem State.drainAll_mode : s.drainAll.mode = s.mode := rfl
@[simp] theorem State.drainAll_pwr : s.drainAll.pwr = s.pwr := rfl
@[simp] theorem State.drainAll_fatal : s.drainAll.fatal = s.fatal := rfl
@[simp] theorem State.drainAll_faultCause : s.drainAll.faultCause = s.faultCause := rfl
@[simp] theorem State.drainAll_protoErr : s.drainAll.protoErr = s.protoErr := rfl
@[simp] theorem State.drainAll_totalCnt : s.drainAll.totalCnt = s.totalCnt := rfl
@[simp] theorem State.drainAll_overflowCnt : s.drainAll.overflowCnt = s.overflowCnt := rfl
@[simp] theorem State.drainAll_readFailCnt : s.drainAll.readFailCnt = s.readFailCnt := rfl
@[simp] theorem State.drainAll_drainDropCnt : s.drainAll.drainDropCnt = s.drainDropCnt + s.occ := rfl
@[simp] theorem State.drainAll_notReadyCnt : s.drainAll.notReadyCnt = s.notReadyCnt := rfl
@[simp] theorem State.drainAll_unitSkipCnt : s.drainAll.unitSkipCnt = s.unitSkipCnt := rfl
@[simp] theorem State.drainAll_txOkCnt : s.drainAll.txOkCnt = s.txOkCnt := rfl
@[simp] theorem State.drainAll_txFailCnt : s.drainAll.txFailCnt = s.txFailCnt := rfl
@[simp] theorem State.drainAll_abortCnt : s.drainAll.abortCnt = s.abortCnt := rfl
@[simp] theorem State.drainAll_resp : s.drainAll.resp = s.resp := rfl
@[simp] theorem State.drainAll_out : s.drainAll.out = s.out := rfl
@[simp] theorem State.drainAll_timeNow : s.drainAll.timeNow = s.timeNow := rfl
@[simp] theorem State.drainAll_schedule : s.drainAll.schedule = s.schedule := rfl
@[simp] theorem State.drainAll_epoch : s.drainAll.epoch = s.epoch := rfl

/-! A fresh link record (R155, R156). -/

@[simp] theorem State.freshLink_cfg (b : Bool) : (s.freshLink b).cfg = s.cfg := rfl
@[simp] theorem State.freshLink_mem (b : Bool) : (s.freshLink b).mem = s.mem := rfl
@[simp] theorem State.freshLink_wc (b : Bool) : (s.freshLink b).wc = s.wc := rfl
@[simp] theorem State.freshLink_rc (b : Bool) : (s.freshLink b).rc = s.rc := rfl
@[simp] theorem State.freshLink_tsSlot (b : Bool) : (s.freshLink b).tsSlot = s.tsSlot := rfl
@[simp] theorem State.freshLink_tickPend (b : Bool) : (s.freshLink b).tickPend = s.tickPend := rfl
@[simp] theorem State.freshLink_pstate (b : Bool) : (s.freshLink b).pstate = s.pstate := rfl
@[simp] theorem State.freshLink_tsSnap (b : Bool) : (s.freshLink b).tsSnap = s.tsSnap := rfl
@[simp] theorem State.freshLink_seq (b : Bool) : (s.freshLink b).seq = s.seq := rfl
@[simp] theorem State.freshLink_bstate (b : Bool) : (s.freshLink b).bstate = s.bstate := rfl
@[simp] theorem State.freshLink_burstPend (b : Bool) : (s.freshLink b).burstPend = s.burstPend := rfl
@[simp] theorem State.freshLink_pktI (b : Bool) : (s.freshLink b).pktI = s.pktI := rfl
@[simp] theorem State.freshLink_pktN (b : Bool) : (s.freshLink b).pktN = s.pktN := rfl
@[simp] theorem State.freshLink_burstId (b : Bool) : (s.freshLink b).burstId = s.burstId := rfl
@[simp] theorem State.freshLink_wstart (b : Bool) : (s.freshLink b).wstart = s.wstart := rfl
@[simp] theorem State.freshLink_conn (b : Bool) : (s.freshLink b).conn = b := rfl
@[simp] theorem State.freshLink_subData (b : Bool) : (s.freshLink b).subData = false := rfl
@[simp] theorem State.freshLink_subHb (b : Bool) : (s.freshLink b).subHb = false := rfl
@[simp] theorem State.freshLink_unit (b : Bool) : (s.freshLink b).unit = 0 := rfl
@[simp] theorem State.freshLink_mode (b : Bool) : (s.freshLink b).mode = s.mode := rfl
@[simp] theorem State.freshLink_pwr (b : Bool) : (s.freshLink b).pwr = s.pwr := rfl
@[simp] theorem State.freshLink_fatal (b : Bool) : (s.freshLink b).fatal = s.fatal := rfl
@[simp] theorem State.freshLink_faultCause (b : Bool) : (s.freshLink b).faultCause = s.faultCause := rfl
@[simp] theorem State.freshLink_protoErr (b : Bool) : (s.freshLink b).protoErr = s.protoErr := rfl
@[simp] theorem State.freshLink_totalCnt (b : Bool) : (s.freshLink b).totalCnt = s.totalCnt := rfl
@[simp] theorem State.freshLink_overflowCnt (b : Bool) : (s.freshLink b).overflowCnt = s.overflowCnt := rfl
@[simp] theorem State.freshLink_readFailCnt (b : Bool) : (s.freshLink b).readFailCnt = s.readFailCnt := rfl
@[simp] theorem State.freshLink_drainDropCnt (b : Bool) : (s.freshLink b).drainDropCnt = s.drainDropCnt := rfl
@[simp] theorem State.freshLink_notReadyCnt (b : Bool) : (s.freshLink b).notReadyCnt = s.notReadyCnt := rfl
@[simp] theorem State.freshLink_unitSkipCnt (b : Bool) : (s.freshLink b).unitSkipCnt = s.unitSkipCnt := rfl
@[simp] theorem State.freshLink_txOkCnt (b : Bool) : (s.freshLink b).txOkCnt = s.txOkCnt := rfl
@[simp] theorem State.freshLink_txFailCnt (b : Bool) : (s.freshLink b).txFailCnt = s.txFailCnt := rfl
@[simp] theorem State.freshLink_abortCnt (b : Bool) : (s.freshLink b).abortCnt = s.abortCnt := rfl
@[simp] theorem State.freshLink_resp (b : Bool) : (s.freshLink b).resp = s.resp := rfl
@[simp] theorem State.freshLink_out (b : Bool) : (s.freshLink b).out = s.out := rfl
@[simp] theorem State.freshLink_timeNow (b : Bool) : (s.freshLink b).timeNow = s.timeNow := rfl
@[simp] theorem State.freshLink_schedule (b : Bool) : (s.freshLink b).schedule = s.schedule := rfl
@[simp] theorem State.freshLink_epoch (b : Bool) : (s.freshLink b).epoch = s.epoch := rfl

end

end Sys2Proof.Machine
end

