-- ==== Sys2Proof/Laws/Memory.lean ====
section
/-! SUPPORT. The laws of memory: reading after a write, and that every memory operation keeps the canonical form. -/

namespace Sys2Proof.Machine

@[simp] theorem Memory.read?_nil (x : Nat) : Memory.read? [] x = none := rfl

theorem Memory.read?_cons (a : Nat) (b : Byte) (m : Memory) (x : Nat) :
    Memory.read? ((a, b) :: m) x = if x = a then some b else Memory.read? m x := rfl

/-- One byte after a write: the written byte at its address, the old one elsewhere. -/
theorem Memory.read?_write (m : Memory) (x y : Nat) (v : Byte) :
    (Memory.write m x v).read? y = if y = x then some v else m.read? y := by
  induction m with
  | nil => simp [Memory.write, Memory.read?]
  | cons c m ih =>
    obtain ⟨a, b⟩ := c
    simp only [Memory.write]
    split
    · simp [Memory.read?]
    · split
      · rename_i h; subst h
        by_cases hy : y = x <;> simp [Memory.read?, hy]
      · rename_i h1 h2
        simp only [Memory.read?_cons, ih]
        by_cases hya : y = a
        · subst hya; simp [Ne.symm h2]
        · simp [hya]

@[simp] theorem Memory.read?_write_same (m : Memory) (x : Nat) (v : Byte) :
    (Memory.write m x v).read? x = some v := by simp [Memory.read?_write]

theorem Memory.read?_write_other (m : Memory) {x y : Nat} (v : Byte) (h : y ≠ x) :
    (Memory.write m x v).read? y = m.read? y := by simp [Memory.read?_write, h]

/-- Every address a write leaves listed was listed before or is the written one. -/
theorem Memory.mem_write {m : Memory} {x : Nat} {v : Byte} {c : Host.Cell} (h : c ∈ Memory.write m x v) :
    c = (x, v) ∨ c ∈ m := by
  induction m with
  | nil => simpa [Memory.write] using h
  | cons d m ih =>
    obtain ⟨a, b⟩ := d
    simp only [Memory.write] at h
    split at h
    · simpa using h
    · split at h
      · simp only [List.mem_cons] at h ⊢; tauto
      · simp only [List.mem_cons] at h ⊢
        rcases h with h | h
        · exact .inr (.inl h)
        · rcases ih h with h | h
          · exact .inl h
          · exact .inr (.inr h)

/-- A write keeps the canonical form. -/
theorem Memory.write_wf {m : Memory} (h : m.wf) (x : Nat) (v : Byte) : (Memory.write m x v).wf := by
  induction m with
  | nil => simp [Memory.write, Memory.wf]
  | cons d m ih =>
    obtain ⟨a, b⟩ := d
    rw [Memory.wf, List.pairwise_cons] at h
    obtain ⟨hd, hm⟩ := h
    simp only [Memory.write]
    split
    · rename_i hxa
      refine List.pairwise_cons.2 ⟨?_, List.pairwise_cons.2 ⟨hd, hm⟩⟩
      intro c hc
      rcases List.mem_cons.1 hc with rfl | hc
      · exact hxa
      · exact Nat.lt_trans hxa (hd c hc)
    · split
      · rename_i hxa; subst hxa
        exact List.pairwise_cons.2 ⟨hd, hm⟩
      · rename_i h1 h2
        refine List.pairwise_cons.2 ⟨?_, ih hm⟩
        intro c hc
        rcases Memory.mem_write hc with rfl | hc
        · simp only; omega
        · exact hd c hc

/-- One byte after consecutive bytes are written. -/
theorem Memory.read?_writeBytes (vs : List Byte) (m : Memory) (x y : Nat) :
    (Memory.writeBytes m x vs).read? y = if x ≤ y ∧ y < x + vs.length then vs[y - x]? else m.read? y := by
  induction vs generalizing m x with
  | nil =>
    simp only [Memory.writeBytes, List.length_nil, Nat.add_zero]
    rw [if_neg (by omega)]
  | cons v vs ih =>
    simp only [Memory.writeBytes, ih, Memory.read?_write, List.length_cons]
    by_cases h0 : y = x
    · subst h0; simp
    · by_cases h1 : x ≤ y ∧ y < x + (vs.length + 1)
      · rw [if_pos h1, if_pos (by omega)]
        have : y - x = (y - (x + 1)) + 1 := by omega
        simp [this]
      · rw [if_neg h1, if_neg (by omega), if_neg h0]

theorem Memory.writeBytes_wf {m : Memory} (h : m.wf) (x : Nat) (vs : List Byte) : (Memory.writeBytes m x vs).wf := by
  induction vs generalizing m x with
  | nil => exact h
  | cons v vs ih => exact ih (Memory.write_wf h x v) (x + 1)

/-- Every address listed after consecutive bytes are written was listed before or is one of theirs. -/
theorem Memory.mem_writeBytes {vs : List Byte} {m : Memory} {x : Nat} {c : Host.Cell}
    (h : c ∈ Memory.writeBytes m x vs) : (x ≤ c.1 ∧ c.1 < x + vs.length) ∨ c ∈ m := by
  induction vs generalizing m x with
  | nil => exact .inr h
  | cons v vs ih =>
    rcases ih h with h | h
    · exact .inl ⟨by omega, by simp only [List.length_cons]; omega⟩
    · rcases Memory.mem_write h with rfl | h
      · exact .inl ⟨Nat.le_refl _, by simp⟩
      · exact .inr h

@[simp] theorem Sample.bytes_length (r : Sample) : r.bytes.length = 10 := rfl

@[simp] theorem hiByte_append_loByte (v : U16) : hiByte v ++ loByte v = v := by
  apply BitVec.eq_of_getLsbD_eq
  intro i hi
  simp only [hiByte, loByte, BitVec.getLsbD_append, BitVec.getLsbD_extractLsb']
  by_cases h : i < 8
  · simp [h]
  · have h' : 8 + (i - 8) = i := by omega
    simp [h, h']; omega

/-- The bytes of a record determine it. -/
theorem Sample.ofBytes_bytes (r : Sample) (f : Nat → Byte) (h : ∀ k < 10, r.bytes[k]? = some (f k)) :
    Sample.ofBytes f = r := by
  have h0 := h 0 (by omega); have h1 := h 1 (by omega); have h2 := h 2 (by omega); have h3 := h 3 (by omega)
  have h4 := h 4 (by omega); have h5 := h 5 (by omega); have h6 := h 6 (by omega); have h7 := h 7 (by omega)
  have h8 := h 8 (by omega); have h9 := h 9 (by omega)
  simp only [Sample.bytes, List.getElem?_cons_zero, List.getElem?_cons_succ, Option.some.injEq] at *
  obtain ⟨a, b, c, d, e⟩ := r
  simp only [Sample.ofBytes, ← h0, ← h1, ← h2, ← h3, ← h4, ← h5, ← h6, ← h7, ← h8, ← h9, hiByte_append_loByte]

/-- A byte of the slot array after a slot is written: the record's bytes in that slot, the old ones elsewhere. -/
theorem State.slotByte_slotWrite (s : State) (i : Nat) (r : Sample) (x : Nat) :
    (s.slotWrite i r).slotByte x =
      if slotAddr i ≤ x ∧ x < slotAddr i + 10 then (r.bytes[x - slotAddr i]?).getD 0 else s.slotByte x := by
  have hl := Sample.bytes_length r
  simp only [State.slotByte, State.slotWrite_mem, State.slotWrite_epoch, Memory.read?_writeBytes]
  by_cases h : slotAddr i ≤ x ∧ x < slotAddr i + 10
  · rw [if_pos h, if_pos (by rw [hl]; exact h)]
    have hk : x - slotAddr i < r.bytes.length := by omega
    simp [List.getElem?_eq_getElem hk]
  · rw [if_neg h, if_neg (by rw [hl]; exact h)]

/-- The slot a record was written into reads back as that record (R19, R65). -/
theorem State.slotRead_slotWrite_same (s : State) (i : Nat) (r : Sample) : (s.slotWrite i r).slotRead i = r := by
  apply Sample.ofBytes_bytes
  intro k hk
  rw [State.slotByte_slotWrite, if_pos (by omega), Nat.add_sub_cancel_left]
  have hk' : k < r.bytes.length := hk
  simp [List.getElem?_eq_getElem hk']

/-- Every other slot keeps its record. -/
theorem State.slotRead_slotWrite_other (s : State) {i j : Nat} (r : Sample) (h : j ≠ i) :
    (s.slotWrite i r).slotRead j = s.slotRead j := by
  have hb : ∀ k < 10, (s.slotWrite i r).slotByte (slotAddr j + k) = s.slotByte (slotAddr j + k) := by
    intro k hk
    rw [State.slotByte_slotWrite, if_neg]
    simp only [slotAddr]; omega
  simp only [State.slotRead, Sample.ofBytes]
  simp only [hb 0 (by omega), hb 1 (by omega), hb 2 (by omega), hb 3 (by omega), hb 4 (by omega), hb 5 (by omega),
    hb 6 (by omega), hb 7 (by omega), hb 8 (by omega), hb 9 (by omega)]

/-- The slot array's bytes depend on memory and the reset count only. -/
theorem State.slotByte_congr {s t : State} (hm : t.mem = s.mem) (he : t.epoch = s.epoch) (x : Nat) :
    t.slotByte x = s.slotByte x := by simp [State.slotByte, hm, he]

theorem State.slotRead_congr {s t : State} (hm : t.mem = s.mem) (he : t.epoch = s.epoch) (i : Nat) :
    t.slotRead i = s.slotRead i := by simp [State.slotRead, State.slotByte_congr hm he]

/-- The packing of R25 and the wire order of R143 agree: byte `k` of `Ser(rec)` is `rec[8k+7:8k]`. -/
theorem Sample.serialise_eq_pack_bytes (r : Sample) :
    r.serialise = (List.range 10).map fun k => r.pack.extractLsb' (8 * k) 8 := by
  obtain ⟨a, b, c, d, e⟩ := r
  simp only [Sample.serialise, Sample.bytes, Sample.pack, List.range, List.range.loop, List.map_cons, List.map_nil,
    loByte, hiByte, List.cons.injEq, and_true]
  refine ⟨?_, ?_, ?_, ?_, ?_, ?_, ?_, ?_, ?_, ?_⟩ <;>
    (apply BitVec.eq_of_getLsbD_eq; intro i hi
     rw [BitVec.getLsbD_extractLsb', BitVec.getLsbD_extractLsb', BitVec.getLsbD_append, BitVec.getLsbD_append,
       BitVec.getLsbD_append, BitVec.getLsbD_append]
     simp only [hi, decide_true, Bool.true_and]
     split_ifs <;> first | omega | (congr 1; omega) | rfl)

/-- A slot index is a slot: `Index(c) < CAP` (R65, R104). -/
theorem Config.index_lt (c : Config) (x : U32) : Config.index c x < c.cap := by
  have hp : 0 < c.cap := Nat.two_pow_pos _
  have h : (x &&& c.mask).toNat ≤ c.mask.toNat := by
    rw [BitVec.toNat_and]; exact Nat.and_le_right
  have h2 : c.mask.toNat ≤ c.cap - 1 := by
    simp only [Config.mask, BitVec.toNat_ofNat]; exact Nat.mod_le _ _
  unfold Config.index; omega

end Sys2Proof.Machine
end

