-- ==== Sys2Proof/Laws/Ops.lean ====
section
/-! SUPPORT. What each shared operation can do, said once: later proofs cite these instead of unfolding the operation. -/

namespace Sys2Proof.Machine

/-! ## The fatal state -/

/-- While fatal a request is answered HALTED with the cause and nothing else happens (R169). -/
theorem State.unlessHalted_fatal {s t : State} (h : s.fatal = true) :
    s.unlessHalted t = s.respond .halted (s.faultCause.setWidth 32) := by simp [State.unlessHalted, h]

@[simp] theorem State.unlessHalted_running {s t : State} (h : s.fatal = false) : s.unlessHalted t = t := by
  simp [State.unlessHalted, h]

/-- A request step ends in the HALTED answer or in the opcode's effect. -/
theorem State.unlessHalted_cases (s t : State) :
    (s.fatal = true ∧ s.unlessHalted t = s.respond .halted (s.faultCause.setWidth 32)) ∨
    (s.fatal = false ∧ s.unlessHalted t = t) := by
  cases h : s.fatal
  · exact .inr ⟨rfl, State.unlessHalted_running h⟩
  · exact .inl ⟨rfl, State.unlessHalted_fatal h⟩

@[simp] theorem Attempt.orFatal_done (t b : State) : (Attempt.done t).orFatal b = t.respond .ok 0 := rfl

@[simp] theorem Attempt.orFatal_fatal (c : FatalCause) (b : State) :
    (Attempt.fatal c).orFatal b = (b.raiseFatal c).respond .halted (c.code.setWidth 32) := rfl

@[simp] theorem Attempt.orFatalInternal_done (t b : State) : (Attempt.done t).orFatalInternal b = t := rfl

@[simp] theorem Attempt.orFatalInternal_fatal (c : FatalCause) (b : State) :
    (Attempt.fatal c).orFatalInternal b = b.raiseFatal c := rfl

/-! ## Ring buffer -/

/-- `Advance(k)`: the read cursor moves by `k` within the occupancy, or CURSOR_INVARIANT (R112). -/
theorem State.advance_cases (s : State) (k : Nat) :
    (k ≤ s.occ.toNat ∧ s.advance k = .done { s with rc := s.rc + BitVec.ofNat 32 k }) ∨
    (s.occ.toNat < k ∧ s.advance k = .fatal .cursorInvariant) := by
  by_cases h : k > s.occ.toNat
  · exact .inr ⟨h, by simp [State.advance, h]⟩
  · exact .inl ⟨Nat.le_of_not_lt h, by simp [State.advance, h]⟩

/-- `SignalBurst()`: one more wake is posted, or BURST_SIGNAL_OVERFLOW (R122). -/
theorem State.signalBurst_cases (s : State) :
    (s.burstPend ≠ 0xFFFF ∧ s.signalBurst = .done { s with burstPend := s.burstPend + 1 }) ∨
    (s.burstPend = 0xFFFF ∧ s.signalBurst = .fatal .burstSignalOverflow) := by
  by_cases h : s.burstPend = 0xFFFF
  · exact .inr ⟨h, if_pos h⟩
  · exact .inl ⟨h, if_neg h⟩

/-- `EnqueueOrDrop(rec)` drops on a full buffer, stores, stores and signals at the threshold, or is fatal (R121). -/
theorem State.enqueueOrDrop_cases (s : State) (r : Sample) :
    (s.occ.toNat = s.cfg.cap ∧ s.enqueueOrDrop r = .done { s with overflowCnt := s.overflowCnt + 1 }) ∨
    (s.occ.toNat < s.cfg.cap ∧ s.occ.toNat + 1 ≠ s.cfg.thresh ∧ s.enqueueOrDrop r = .done (s.push r)) ∨
    (s.occ.toNat < s.cfg.cap ∧ s.occ.toNat + 1 = s.cfg.thresh ∧ s.burstPend ≠ 0xFFFF ∧
      s.enqueueOrDrop r = .done { s.push r with burstPend := s.burstPend + 1 }) ∨
    (s.cfg.cap < s.occ.toNat ∧ s.enqueueOrDrop r = .fatal .cursorInvariant) ∨
    (s.occ.toNat < s.cfg.cap ∧ s.occ.toNat + 1 = s.cfg.thresh ∧ s.burstPend = 0xFFFF ∧
      s.enqueueOrDrop r = .fatal .burstSignalOverflow) := by
  by_cases h1 : s.occ.toNat > s.cfg.cap
  · exact .inr (.inr (.inr (.inl ⟨h1, if_pos h1⟩)))
  · by_cases h2 : s.occ.toNat = s.cfg.cap
    · exact .inl ⟨h2, (if_neg h1).trans (if_pos h2)⟩
    · have h3 : s.occ.toNat < s.cfg.cap := by omega
      have he : s.enqueueOrDrop r = if s.occ.toNat + 1 = s.cfg.thresh then (s.push r).signalBurst else .done (s.push r) :=
        (if_neg h1).trans (if_neg h2)
      by_cases h4 : s.occ.toNat + 1 = s.cfg.thresh
      · rw [if_pos h4] at he
        rcases State.signalBurst_cases (s.push r) with ⟨hb, hs⟩ | ⟨hb, hs⟩
        · exact .inr (.inr (.inl ⟨h3, h4, hb, he.trans hs⟩))
        · exact .inr (.inr (.inr (.inr ⟨h3, h4, hb, he.trans hs⟩)))
      · exact .inr (.inl ⟨h3, h4, he.trans (if_neg h4)⟩)

/-- An awaited SENSOR_OK drops, stores, stores and signals, or is fatal (R120, R121). -/
theorem State.acceptSample_cases (s : State) (x y z : U16) :
    (s.occ.toNat = s.cfg.cap ∧ s.acceptSample x y z =
      .done { s with overflowCnt := s.overflowCnt + 1, seq := s.seq + 1, pstate := .idle }) ∨
    (s.occ.toNat < s.cfg.cap ∧ s.occ.toNat + 1 ≠ s.cfg.thresh ∧ s.acceptSample x y z =
      .done { s.push (s.sampleOf x y z) with seq := s.seq + 1, pstate := .idle }) ∨
    (s.occ.toNat < s.cfg.cap ∧ s.occ.toNat + 1 = s.cfg.thresh ∧ s.burstPend ≠ 0xFFFF ∧ s.acceptSample x y z =
      .done { s.push (s.sampleOf x y z) with seq := s.seq + 1, pstate := .idle, burstPend := s.burstPend + 1 }) ∨
    (s.cfg.cap < s.occ.toNat ∧ s.acceptSample x y z = .fatal .cursorInvariant) ∨
    (s.occ.toNat < s.cfg.cap ∧ s.occ.toNat + 1 = s.cfg.thresh ∧ s.burstPend = 0xFFFF ∧
      s.acceptSample x y z = .fatal .burstSignalOverflow) :=
  State.enqueueOrDrop_cases { s with seq := s.seq + 1, pstate := .idle } (s.sampleOf x y z)

/-! ## Trigger -/

/-- TICK: the timestamp slot and the wake count, or TICK_OVERFLOW (R115). -/
theorem State.tick_cases (s : State) :
    (s.tickPend ≠ 0xFFFF ∧
      s.tick = .done { s with tsSlot := s.timeNow - s.wstart, tickPend := s.tickPend + 1 }) ∨
    (s.tickPend = 0xFFFF ∧ s.tick = .fatal .tickOverflow) := by
  by_cases h : s.tickPend = 0xFFFF
  · exact .inr ⟨h, if_pos h⟩
  · exact .inl ⟨h, if_neg h⟩

/-! ## Burst controller -/

/-- The state `Finish(aborted, i)` leaves when it does not raise (R136). -/
def State.finished (s : State) (aborted : Bool) (i : Nat) : State :=
  { s with rc := s.rc + BitVec.ofNat 32 (i * s.cfg.spp), wstart := s.timeNow, burstId := s.burstId + 1,
           bstate := .idle, abortCnt := if aborted then s.abortCnt + 1 else s.abortCnt }

/-- `Finish(aborted, i)` consumes exactly the samples attempted, or CURSOR_INVARIANT (R136). -/
theorem State.finish_cases (s : State) (aborted : Bool) (i : Nat) :
    (i * s.cfg.spp ≤ s.occ.toNat ∧ s.finish aborted i = .done (s.finished aborted i)) ∨
    (s.occ.toNat < i * s.cfg.spp ∧ s.finish aborted i = .fatal .cursorInvariant) := by
  rcases State.advance_cases s (i * s.cfg.spp) with ⟨h, he⟩ | ⟨h, he⟩
  · exact .inl ⟨h, by simp [State.finish, he, State.finished]⟩
  · exact .inr ⟨h, by simp [State.finish, he]⟩

/-- `AfterAttempt()`: the last packet finishes; else BURST mode paces and CONTINUOUS mode does not (R134). -/
theorem State.afterAttempt_cases (s : State) :
    (s.pktI + 1 = s.pktN ∧ s.afterAttempt = State.finish { s with pktI := s.pktI + 1 } false (s.pktI + 1).toNat) ∨
    (s.pktI + 1 ≠ s.pktN ∧ s.mode = .burst ∧
      s.afterAttempt = .done { s with pktI := s.pktI + 1, bstate := .pace, out := some .paceReq }) ∨
    (s.pktI + 1 ≠ s.pktN ∧ s.mode = .continuous ∧
      s.afterAttempt = .done { s with pktI := s.pktI + 1, bstate := .pkt }) := by
  unfold State.afterAttempt
  by_cases h : s.pktI + 1 = s.pktN
  · simp only [h, if_true]; exact .inl ⟨trivial, trivial⟩
  · simp only [h, if_false]
    cases hm : s.mode
    · exact .inr (.inl ⟨h, rfl, by simp [State.emit]⟩)
    · exact .inr (.inr ⟨h, rfl, by simp⟩)

/-- BURST_WAKE drains on the link gate, drains on the unit gate, finds no whole packet, or starts a burst (R127). -/
theorem State.burstWake_cases (s : State) :
    (s.linkReady = false ∧ s.burstWake =
      { s with burstPend := s.burstPend - 1, drainDropCnt := s.drainDropCnt + s.occ, rc := s.wc,
               notReadyCnt := s.notReadyCnt + 1 }) ∨
    (s.linkReady = true ∧ s.unitReady = false ∧ s.burstWake =
      { s with burstPend := s.burstPend - 1, drainDropCnt := s.drainDropCnt + s.occ, rc := s.wc,
               unitSkipCnt := s.unitSkipCnt + 1 }) ∨
    (s.linkReady = true ∧ s.unitReady = true ∧ s.packetCount = 0 ∧
      s.burstWake = { s with burstPend := s.burstPend - 1 }) ∨
    (s.linkReady = true ∧ s.unitReady = true ∧ s.packetCount ≠ 0 ∧ s.burstWake =
      { s with burstPend := s.burstPend - 1, pktN := BitVec.ofNat 16 s.packetCount, pktI := 0, bstate := .pkt }) := by
  unfold State.burstWake
  cases hl : s.linkReady
  · exact .inl ⟨rfl, rfl⟩
  · cases hu : s.unitReady
    · exact .inr (.inl ⟨rfl, rfl, rfl⟩)
    · by_cases hn : s.packetCount = 0
      · exact .inr (.inr (.inl ⟨rfl, rfl, hn, by simp [hn]⟩))
      · exact .inr (.inr (.inr ⟨rfl, rfl, hn, by simp [hn]⟩))

/-- BURST_PACKET hands one packet to the transport, or aborts the burst (R131). -/
theorem State.burstPacket_cases (s : State) :
    (s.conn = true ∧ s.burstPacket =
      { s with bstate := .txw, out := some (.txReq (s.buildPacket s.packetBase s.burstId)) }) ∨
    (s.conn = false ∧ s.burstPacket = (s.finish true s.pktI.toNat).orFatalInternal s) := by
  unfold State.burstPacket
  cases h : s.conn
  · exact .inr ⟨rfl, by simp⟩
  · exact .inl ⟨rfl, by simp [State.emit]⟩

/-- The packet count of a wake fits `PKT_N` and its packets are in the buffer (R130). -/
theorem State.packetCount_le (s : State) :
    s.packetCount ≤ 65535 ∧ s.packetCount ≤ s.cfg.maxp ∧ s.packetCount * s.cfg.spp ≤ s.occ.toNat := by
  have h1 : s.packetCount ≤ s.cfg.maxp := Nat.min_le_right _ _
  have h2 : s.packetCount ≤ s.occ.toNat / s.cfg.spp := Nat.min_le_left _ _
  refine ⟨Nat.le_trans h1 s.cfg.maxp_le, h1, ?_⟩
  exact Nat.le_trans (Nat.mul_le_mul_right _ h2) (Nat.div_mul_le_self _ _)

/-! ## The step -/

/-- With nothing scheduled the block waits. -/
theorem step_nil {s : State} (h : s.schedule = []) : step s = .next (s.beginStep s.timeNow []) := by
  simp [step, h]

/-- A request word is handled whole (R20, R97). -/
theorem step_request {s : State} {w : Word64} {n : U16} {r : List Stimulus} (h : s.schedule = .request w n :: r) :
    step s = handleRequest w (s.beginStep n r) := by
  simp [step, h, runStimulus, Stimulus.busTime]

/-- An internal step is taken if it is enabled (R98). -/
theorem step_internal {s : State} {u : InternalStep} {n : U16} {r : List Stimulus}
    (h : s.schedule = .internal u n :: r) : step s = runInternal u (s.beginStep n r) := by
  simp [step, h, runStimulus, Stimulus.busTime]

/-- `rst` is one step (R180). -/
theorem step_reset {s : State} {r : List Stimulus} (h : s.schedule = .reset :: r) :
    step s = .next (s.beginStep s.timeNow r).assertReset := by
  simp [step, h, runStimulus, Stimulus.busTime]

/-- Every step answers in one of four ways. -/
theorem step_cases {s t : State} (h : step s = .next t) :
    (s.schedule = [] ∧ t = s.beginStep s.timeNow []) ∨
    (∃ w n r, s.schedule = .request w n :: r ∧ handleRequest w (s.beginStep n r) = .next t) ∨
    (∃ u n r, s.schedule = .internal u n :: r ∧ runInternal u (s.beginStep n r) = .next t) ∨
    (∃ r, s.schedule = .reset :: r ∧ t = (s.beginStep s.timeNow r).assertReset) := by
  match hs : s.schedule with
  | [] => rw [step_nil hs] at h; exact .inl ⟨rfl, (Host.Outcome.next.inj h).symm⟩
  | .request w n :: r => rw [step_request hs] at h; exact .inr (.inl ⟨w, n, r, rfl, h⟩)
  | .internal u n :: r => rw [step_internal hs] at h; exact .inr (.inr (.inl ⟨u, n, r, rfl, h⟩))
  | .reset :: r => rw [step_reset hs] at h; exact .inr (.inr (.inr ⟨r, rfl, (Host.Outcome.next.inj h).symm⟩))

/-- A request word is an instruction, whose meaning runs, or ILLEGAL, which is answered (R97). -/
theorem handleRequest_cases {w : Word64} {s t : State} (h : handleRequest w s = .next t) :
    (∃ i, decode w = .instr i ∧ exec i s = .next t) ∨ (∃ e, decode w = .illegal e ∧ t = s.answerIllegal) := by
  unfold handleRequest at h
  cases hd : decode w with
  | instr i => rw [hd] at h; exact .inl ⟨i, rfl, h⟩
  | illegal e => rw [hd] at h; exact .inr ⟨e, rfl, (Host.Outcome.next.inj h).symm⟩

/-- An internal step takes its effect, or is not enabled and changes nothing (R98). -/
theorem runInternal_cases {u : InternalStep} {s t : State} (h : runInternal u s = .next t) :
    (s.enabled u = true ∧ t = s.internalEffect u) ∨ (s.enabled u = false ∧ t = s) := by
  unfold runInternal at h
  have h' := Host.Outcome.next.inj h
  cases he : s.enabled u
  · exact .inr ⟨rfl, by simpa [he] using h'.symm⟩
  · exact .inl ⟨rfl, by simpa [he] using h'.symm⟩

end Sys2Proof.Machine
end

