-- ==== Sys2Proof/Laws/Invariant.lean ====
section
/-! SUPPORT. Small lemmas about the terms of the invariant: the capacity, the index, and live samples as offsets from RC. -/

namespace Sys2Proof.Machine

/-- `CAP` is at most `2^31` (R7). -/
theorem Config.cap_le (c : Config) : c.cap ≤ 2 ^ 31 := Nat.pow_le_pow_right (by decide) c.capLog_le

theorem Config.cap_pos (c : Config) : 0 < c.cap := Nat.two_pow_pos _

/-- A live sample is `RC + d` for an offset `d` below the occupancy (R111). -/
theorem State.live_iff (s : State) (c : U32) :
    s.live c = true ↔ ∃ d, d < s.occ.toNat ∧ c = s.rc + BitVec.ofNat 32 d := by
  simp only [State.live, decide_eq_true_eq]
  constructor
  · intro h
    exact ⟨(c - s.rc).toNat, h, by rw [BitVec.ofNat_toNat, BitVec.setWidth_eq, BitVec.add_comm, BitVec.sub_add_cancel]⟩
  · rintro ⟨d, hd, rfl⟩
    have hlt : d < 2 ^ 32 := Nat.lt_trans hd s.occ.isLt
    have he : s.rc + BitVec.ofNat 32 d - s.rc = BitVec.ofNat 32 d := by
      rw [BitVec.add_comm, BitVec.add_sub_cancel]
    rw [he, BitVec.toNat_ofNat, Nat.mod_eq_of_lt hlt]
    exact hd

/-- Every live slot has been written exactly if the slots of the offsets below the occupancy have: a finite check. -/
theorem State.liveWritten_iff (s : State) :
    s.LiveWritten ↔ ∀ d < s.occ.toNat, ∀ k < 10,
      (s.mem.read? (slotAddr (Config.index s.cfg (s.rc + BitVec.ofNat 32 d)) + k)).isSome = true := by
  constructor
  · intro h d hd
    exact h _ ((s.live_iff _).2 ⟨d, hd, rfl⟩)
  · intro h c hc
    obtain ⟨d, hd, rfl⟩ := (s.live_iff c).1 hc
    exact h d hd

end Sys2Proof.Machine
end

