-- ==== Sys2Proof/Laws/PerInstr.lean ====
section
/-! SUPPORT. Facts about every instruction as a term, one lemma per constructor. -/

namespace Sys2Proof.Laws.WordFields

/-- The word of an instruction carries its opcode in OPC, 0 in RSV and its payload in PAY (R83). -/
def Statement (i : Instr) : Prop :=
  opcField (encode i) = i.opcode ∧ rsvField (encode i) = 0 ∧ payField (encode i) = i.payload

/-- The fields of any word laid out as R83 says. -/
theorem fields_of_append (a b : Byte) (p : BitVec 48) :
    opcField (a ++ b ++ p) = a ∧ rsvField (a ++ b ++ p) = b ∧ payField (a ++ b ++ p) = p := by
  refine ⟨?_, ?_, ?_⟩ <;>
    (apply BitVec.eq_of_getLsbD_eq; intro i hi
     simp only [opcField, rsvField, payField, BitVec.getLsbD_extractLsb', BitVec.getLsbD_append, hi, decide_true,
       Bool.true_and]
     split_ifs <;> first | omega | (congr 1; omega))

theorem all (i : Instr) : Statement i := fields_of_append _ _ _

theorem getMode : Statement .getMode := all _
theorem setMode (mv : Byte) (p : Bool) : Statement (.setMode mv p) := all _
theorem setPower (b : Bool) : Statement (.setPower b) := all _
theorem readReg (idx : Byte) : Statement (.readReg idx) := all _
theorem linkConnect : Statement .linkConnect := all _
theorem linkDisconnect : Statement .linkDisconnect := all _
theorem linkSubscribe (sel en : Bool) : Statement (.linkSubscribe sel en) := all _
theorem linkUnit (n : U16) : Statement (.linkUnit n) := all _
theorem sensorOk (x y z : U16) : Statement (.sensorOk x y z) := all _
theorem sensorErr : Statement .sensorErr := all _
theorem txOk : Statement .txOk := all _
theorem txFail : Statement .txFail := all _
theorem tick : Statement .tick := all _
theorem paceDone : Statement .paceDone := all _

end Sys2Proof.Laws.WordFields
end

