-- ==== Sys2Proof/Machine/Assembler.lean ====
section
/-! DEFINITION. The assembler text of spec/30_encoding.md R101 (with the `.word` lines of spec/95) and the
pseudo-instructions of R102: text to request words, each with the `time_now` value its line's `@t` gives.
What R101 leaves open of the text (blanks, letter case, nesting of REPEAT) is assumption 15. -/

namespace Sys2Proof.Machine

/-- The tokens of assembler text. -/
inductive AsmToken where
  | word (cs : List Char)
  | comma
  | newline
  | openBrace
  | closeBrace
deriving DecidableEq, Repr

/-- One assembled request word, with the `@t` of its line (R101). -/
structure AsmWord where
  word : Word64
  now : Option U16
deriving DecidableEq, Repr

/-- The tokens of the text: `;` starts a comment that ends with its line (R101). `cur` is the word being read, reversed. -/
def asmTokens : (text : List Char) → (cur : List Char) → (comment : Bool) → List AsmToken
  | [], cur, _ => if cur.isEmpty then [] else [.word cur.reverse]
  | c :: cs, cur, comment =>
    let before : List AsmToken := if cur.isEmpty then [] else [.word cur.reverse]
    if c = '\n' then before ++ .newline :: asmTokens cs [] false
    else if comment then asmTokens cs [] true
    else if c = ';' then before ++ asmTokens cs [] true
    else if c = ',' then before ++ .comma :: asmTokens cs [] false
    else if c.toNat = 0x7B then before ++ .openBrace :: asmTokens cs [] false
    else if c.toNat = 0x7D then before ++ .closeBrace :: asmTokens cs [] false
    else if c = ' ' ∨ c = '\t' ∨ c = '\r' then before ++ asmTokens cs [] false
    else asmTokens cs (c :: cur) false

/-- The value of a digit, decimal or hexadecimal. -/
def digitValue (c : Char) : Option Nat :=
  if 48 ≤ c.toNat ∧ c.toNat ≤ 57 then some (c.toNat - 48)
  else if 65 ≤ c.toNat ∧ c.toNat ≤ 70 then some (c.toNat - 55)
  else if 97 ≤ c.toNat ∧ c.toNat ≤ 102 then some (c.toNat - 87)
  else none

/-- Digits in a base, most significant first, after the value read so far. -/
def digitsValue (base : Nat) : List Char → Nat → Option Nat
  | [], v => some v
  | c :: cs, v =>
    match digitValue c with
    | none => none
    | some d => if d < base then digitsValue base cs (base * v + d) else none

/-- A decimal or `0x` hexadecimal natural (R101). -/
def asmNat : List Char → Option Nat
  | [] => none
  | ['0', 'x'] => none
  | '0' :: 'x' :: cs => digitsValue 16 cs 0
  | cs => digitsValue 10 cs 0

/-- An operand: a natural, or a negative decimal (R101). -/
def asmInt : List Char → Option Int
  | [] => none
  | ['-'] => none
  | '-' :: cs => (digitsValue 10 cs 0).map fun n => -(n : Int)
  | cs => (asmNat cs).map fun n => (n : Int)

/-- A one-bit operand: 0 or 1. -/
def asmBit (cs : List Char) : Option Bool :=
  match asmNat cs with
  | some 0 => some false
  | some 1 => some true
  | _ => none

/-- An unsigned operand of `w` bits. -/
def asmUnsigned (w : Nat) (cs : List Char) : Option (BitVec w) :=
  match asmNat cs with
  | some n => if n < 2 ^ w then some (BitVec.ofNat w n) else none
  | none => none

/-- An axis operand: -32768 to 32767, taken as its 16-bit pattern (R101). -/
def asmAxis (cs : List Char) : Option U16 :=
  match asmInt cs with
  | some v => if -32768 ≤ v ∧ v ≤ 32767 then some (BitVec.ofInt 16 v) else none
  | none => none

/-- The register-view names of R59, for the pseudo-instruction READ (R102). -/
def viewNames : List (List Char × ViewReg) :=
  [ ("STATUS".toList, .status), ("WC".toList, .wc), ("RC".toList, .rc), ("OCC".toList, .occ), ("UNIT".toList, .unit),
    ("BURST_ID".toList, .burstId), ("SEQ".toList, .seq), ("WSTART".toList, .wstart), ("TS_SLOT".toList, .tsSlot),
    ("TS_SNAP".toList, .tsSnap), ("TICK_PEND".toList, .tickPend), ("BURST_PEND".toList, .burstPend),
    ("PKTPOS".toList, .pktPos), ("FAULT_CAUSE".toList, .faultCause) ] ++
  [ ("TOTAL_CNT".toList, .totalCnt), ("OVERFLOW_CNT".toList, .overflowCnt), ("READ_FAIL_CNT".toList, .readFailCnt),
    ("DRAIN_DROP_CNT".toList, .drainDropCnt), ("NOTREADY_CNT".toList, .notReadyCnt),
    ("UNIT_SKIP_CNT".toList, .unitSkipCnt), ("TX_OK_CNT".toList, .txOkCnt), ("TX_FAIL_CNT".toList, .txFailCnt),
    ("ABORT_CNT".toList, .abortCnt) ] ++
  [ ("CAP_REG".toList, .capReg), ("SPP_REG".toList, .sppReg), ("THRESH_REG".toList, .threshReg),
    ("MAXP_REG".toList, .maxpReg), ("OVH_REG".toList, .ovhReg), ("PKTB_REG".toList, .pktbReg) ]

/-- The index of a register in the view (R59). -/
def ViewReg.index (r : ViewReg) : Option Byte := (viewMap.find? fun row => row.2 == r).map Prod.fst

/-- The words of a mnemonic or pseudo-instruction with its operands (R101, R102), `none` where it is none of them. -/
def asmOperation (name : List Char) (ops : List (List Char)) : Option (List Word64) :=
  let one (i : Instr) : Option (List Word64) := some [encode i]
  match ops with
  | [] =>
    if name = "GET_MODE".toList then one .getMode
    else if name = "LINK_CONNECT".toList then one .linkConnect
    else if name = "LINK_DISCONNECT".toList then one .linkDisconnect
    else if name = "SENSOR_ERR".toList then one .sensorErr
    else if name = "TX_OK".toList then one .txOk
    else if name = "TX_FAIL".toList then one .txFail
    else if name = "TICK".toList then one .tick
    else if name = "PACE_DONE".toList then one .paceDone
    else if name = "SUBSCRIBE".toList then one (.linkSubscribe false true)
    else if name = "UNSUBSCRIBE".toList then one (.linkSubscribe false false)
    else none
  | [a] =>
    if name = "SET_MODE".toList then
      if a = "BURST".toList then one (.setMode 0 false) else none
    else if name = "SET_POWER".toList then (asmBit a).bind fun b => one (.setPower b)
    else if name = "READ_REG".toList then (asmUnsigned 8 a).bind fun i => one (.readReg i)
    else if name = "LINK_UNIT".toList then (asmUnsigned 16 a).bind fun n => one (.linkUnit n)
    else if name = "READ".toList then
      ((viewNames.lookup a).bind ViewReg.index).bind fun i => one (.readReg i)
    else if name = ".word".toList then (asmUnsigned 64 a).map fun w => [w]
    else none
  | [a, b] =>
    if name = "SET_MODE".toList then
      (asmBit b).bind fun p =>
        if a = "CONTINUOUS".toList then one (.setMode 1 p)
        else (asmUnsigned 8 a).bind fun mv => one (.setMode mv p)
    else if name = "LINK_SUBSCRIBE".toList then
      (asmBit a).bind fun sel => (asmBit b).bind fun en => one (.linkSubscribe sel en)
    else none
  | [a, b, c] =>
    (asmAxis a).bind fun x => (asmAxis b).bind fun y => (asmAxis c).bind fun z =>
      if name = "SENSOR_OK".toList then one (.sensorOk x y z)
      else if name = "SAMPLE".toList then some [encode .tick, encode (.sensorOk x y z)]
      else none
  | _ => none

/-- The operands of a line, separated by commas, and its `@t` if it has one (R101). -/
def asmOperands : List AsmToken → Option (List (List Char) × Option U16)
  | [] => some ([], none)
  | [.word ('@' :: cs)] => (asmUnsigned 16 cs).map fun t => ([], some t)
  | [.word cs] => some ([cs], none)
  | [.word cs, .word ('@' :: ts)] => (asmUnsigned 16 ts).map fun t => ([cs], some t)
  | .word cs :: .comma :: t :: rest => (asmOperands (t :: rest)).map fun r => (cs :: r.1, r.2)
  | _ => none

/-- One line: a name, its operands and its `@t`. -/
def asmLine : List AsmToken → Option (List AsmWord)
  | .word name :: rest =>
    (asmOperands rest).bind fun r => (asmOperation name r.1).map fun ws => ws.map fun w => ⟨w, r.2⟩
  | _ => none

/-- A line goes on up to a line end or a closing brace. -/
def AsmToken.inLine : AsmToken → Bool
  | .newline | .closeBrace => false
  | .word _ | .comma | .openBrace => true

/-- Lines up to the end or an unmatched closing brace; `REPEAT k` writes its enclosed lines out `k` times (R102).
`fuel` bounds the tokens still to be read. -/
def asmLines : Nat → List AsmToken → Option (List AsmWord × List AsmToken)
  | 0, _ => none
  | fuel + 1, toks =>
    match toks with
    | [] => some ([], [])
    | .closeBrace :: rest => some ([], .closeBrace :: rest)
    | .newline :: rest => asmLines fuel rest
    | .word name :: .word k :: .openBrace :: rest =>
      if name = "REPEAT".toList then
        match asmNat k, asmLines fuel rest with
        | some n, some (body, .closeBrace :: rest') =>
          (asmLines fuel rest').map fun r => ((List.replicate n body).flatten ++ r.1, r.2)
        | _, _ => none
      else none
    | _ =>
      match asmLine (toks.takeWhile AsmToken.inLine), asmLines fuel (toks.dropWhile AsmToken.inLine) with
      | some ws, some r => some (ws ++ r.1, r.2)
      | _, _ => none

/-- A whole program text, `none` where it is not assembler text of R101 and R102. -/
def assemble (text : List Char) : Option (List AsmWord) :=
  let toks := asmTokens text [] false
  match asmLines (toks.length + 1) toks with
  | some (ws, []) => some ws
  | _ => none

/-- The stimuli of assembled words; a line with no `@t` samples the value the bus holds (R101). -/
def AsmWord.stimulus (held : U16) (w : AsmWord) : Stimulus := .request w.word (w.now.getD held)

end Sys2Proof.Machine
end

