-- ==== Sys2Proof/Tests/Slice0.lean ====
section
/-! SUPPORT. The model's own tests, each about one step or one function, and a witness for every statement that has
hypotheses. Expected values are those of spec/95_test_vectors.md (cited by its vector names) or written out by hand from
the rules cited. -/

set_option Elab.async false

namespace Sys2Proof.Tests
open Sys2Proof.Machine Sys2Proof.Spec

/-- The next state of an outcome. -/
def after : StepResult → State
  | .next t => t
  | .fault f => nomatch f
  | .refused _ => State.reset

/-- The response word of one request: `CODE + 2^32 * DATA` (R95). -/
def answer (code data : Nat) : Option Word64 := some (BitVec.ofNat 64 (code + 2 ^ 32 * data))

/-- The reset state of CFG-S. -/
def small : State := State.resetOf Config.cfgS

/-! ## Well-formedness: an ill-formed word for each check of R94 (spec/95 §2.8) -/

theorem test_wf_reserved_opcode : opcDefined 0x0500000000000000 = false := by decide +kernel
theorem test_wf_reserved_opcode_refused : requestWellFormed 0x0500000000000000 = false := by decide +kernel
theorem test_wf_rsv : rsvClear 0x2001000000000000 = false ∧ requestWellFormed 0x2001000000000000 = false := by
  decide +kernel
theorem test_wf_pay : payClear 0x0200000000000201 = false ∧ requestWellFormed 0x0200000000000201 = false := by
  decide +kernel
theorem test_wf_accepts : requestWellFormed 0x0200000000000101 = true := by decide +kernel
theorem test_wf_every_term : ∀ b : Bool, (Instr.setPower b).wellFormed = true := by decide

/-! ## Decoding: every constructor by a word written out from R85 to R92 (R101) -/

theorem test_decode_getMode : decode 0x0100000000000000 = .instr .getMode := by decide +kernel
theorem test_decode_setMode : decode 0x0200000000000102 = .instr (.setMode 2 true) := by decide +kernel
theorem test_decode_setPower : decode 0x0300000000000001 = .instr (.setPower true) := by decide +kernel
theorem test_decode_readReg : decode 0x0400000000000025 = .instr (.readReg 0x25) := by decide +kernel
theorem test_decode_linkConnect : decode 0x1000000000000000 = .instr .linkConnect := by decide +kernel
theorem test_decode_linkDisconnect : decode 0x1100000000000000 = .instr .linkDisconnect := by decide +kernel
theorem test_decode_linkSubscribe_enable : decode 0x1200000000000001 = .instr (.linkSubscribe false true) := by
  decide +kernel
theorem test_decode_linkSubscribe_select : decode 0x1200000000000100 = .instr (.linkSubscribe true false) := by
  decide +kernel
theorem test_decode_linkUnit : decode 0x13000000000000F7 = .instr (.linkUnit 247) := by decide +kernel
theorem test_decode_sensorOk : decode 0x20000003FFFE0001 = .instr (.sensorOk 1 0xFFFE 3) := by decide +kernel
theorem test_decode_sensorErr : decode 0x2100000000000000 = .instr .sensorErr := by decide +kernel
theorem test_decode_txOk : decode 0x2200000000000000 = .instr .txOk := by decide +kernel
theorem test_decode_txFail : decode 0x2300000000000000 = .instr .txFail := by decide +kernel
theorem test_decode_tick : decode 0x3000000000000000 = .instr .tick := by decide +kernel
theorem test_decode_paceDone : decode 0x3100000000000000 = .instr .paceDone := by decide +kernel

/-- Every illegal word of spec/95 §2.8. -/
theorem test_decode_illegal_words :
    ([0x0000000000000000, 0x0500000000000000, 0xFF00000000000000, 0x2001000000000000, 0x3001000000000000,
      0x0200000000000201, 0x0300000000000002, 0x1200000000000002, 0x1200000000000200, 0x1300000000010000,
      0x0400000000000100, 0x2200000000000001] : List Word64).all (fun w => (decode w).toOption == none) = true := by
  decide +kernel

theorem test_decode_names_the_check :
    decode 0xFF00000000000000 = .illegal .reservedOpcode ∧ decode 0x3001000000000000 = .illegal .reservedField ∧
    decode 0x2200000000000001 = .illegal .reservedPayload := by decide +kernel

theorem test_encode_sensorOk : encode (.sensorOk 0xFFFF 0 16384) = 0x200040000000FFFF := by decide +kernel
theorem test_encode_setMode : encode (.setMode 255 true) = 0x02000000000001FF := by decide +kernel

/-- R75: carried as bytes, a word's least significant byte comes first; a partial word is none (R77). -/
theorem test_decode_bytes :
    decodeBytes [0x01, 0x01, 0, 0, 0, 0, 0, 0x02, 0xAA] = (.instr (.setMode 1 true), [0xAA]) ∧
    (decodeBytes [0x30, 0, 0]).1 = .illegal .partialWord ∧
    bytesOfWord 0x20000003FFFE0001 = [0x01, 0x00, 0xFE, 0xFF, 0x03, 0x00, 0x00, 0x20] := by decide +kernel

theorem test_table_word : decodeTableWord 64 0x3000000000000000 = some .tick ∧ decodeTableWord 64 0 = none := by
  decide +kernel

/-! ## Assembler text (R101, R102) -/

theorem test_assemble_line :
    assemble "SENSOR_OK -1, 0, 16384 @2 ; P3 line 7".toList = some [⟨0x200040000000FFFF, some 2⟩] := by decide +kernel

theorem test_assemble_pseudo :
    assemble "SET_MODE CONTINUOUS, 1\nREAD OCC\n.word 0x0600000000000000".toList =
      some [⟨0x0200000000000101, none⟩, ⟨0x0400000000000003, none⟩, ⟨0x0600000000000000, none⟩] := by decide +kernel

/-! ## One step a word -/

/-- E8, CONTINUOUS row of SET_MODE 1, 0: PERM_DENIED with DATA 1, and the mode stays. -/
theorem test_setMode_denied :
    let t := after (exec (.setMode 1 false) { small with mode := .continuous })
    t.mode = .continuous ∧ t.resp = answer 1 1 := by decide +kernel

/-- E3: MV = 255 from CONTINUOUS. -/
theorem test_setMode_invalid :
    (after (exec (.setMode 255 true) { small with mode := .continuous })).resp = answer 2 1 := by decide +kernel

/-- §2.6, row CONTINUOUS, 0: the downgrade happens even if PWR was already 0. -/
theorem test_setPower_downgrade :
    let t := after (exec (.setPower false) { small with mode := .continuous })
    t.mode = .burst ∧ t.resp = answer 0 0 := by decide +kernel

theorem test_setPower_keeps_mode :
    let t := after (exec (.setPower true) { small with mode := .continuous })
    t.mode = .continuous ∧ t.pwr = true ∧ t.resp = answer 0 1 := by decide +kernel

/-- §2.9: GET_MODE is performed while fatal. -/
theorem test_getMode_fatal :
    (after (exec .getMode { small with fatal := true, faultCause := 1, mode := .continuous })).resp = answer 0 1 := by
  decide +kernel

/-- RR7 and RR8. -/
theorem test_readReg_status :
    (after (exec (.readReg 0) { small with fatal := true, pstate := .wait })).resp = answer 0 0x120 ∧
    (after (exec (.readReg 0) { small with bstate := .pace, protoErr := true })).resp = answer 0 0x3040 := by
  decide +kernel

/-- RR4 and RR5. -/
theorem test_readReg_reserved_and_pktpos :
    (after (exec (.readReg 0x0E) small)).resp = answer 2 0 ∧
    (after (exec (.readReg 0x0C) { small with pktN := 42, pktI := 10 })).resp = answer 0 0x002A000A := by
  decide +kernel

/-- RR3: the configuration registers of CFG-D. -/
theorem test_readReg_config :
    ([0x20, 0x21, 0x22, 0x23, 0x24, 0x25] : List Byte).map (fun i => (after (exec (.readReg i) State.reset)).resp) =
      [answer 0 1024, answer 0 24, answer 0 1024, answer 0 42, answer 0 3, answer 0 243] := by decide +kernel

/-- LK1. -/
theorem test_linkConnect :
    let t := after (exec .linkConnect { small with subData := true, subHb := true, unit := 100 })
    t.conn = true ∧ t.subData = false ∧ t.subHb = false ∧ t.unit = 0 := by decide +kernel

/-- LK2. -/
theorem test_linkDisconnect :
    let t := after (exec .linkDisconnect { small with conn := true, subData := true, unit := 247 })
    t.conn = false ∧ t.subData = false ∧ t.unit = 0 := by decide +kernel

/-- LK3. -/
theorem test_linkSubscribe :
    let t := after (exec (.linkSubscribe true true) small)
    t.subHb = true ∧ t.subData = false := by decide +kernel

/-- LK5. -/
theorem test_linkUnit : (after (exec (.linkUnit 65535) small)).unit = 0xFFFF := by decide +kernel

/-- SC2: the timestamp wraps. -/
theorem test_tick_wraps :
    let t := after (exec .tick { small with wstart := 10, timeNow := 5, pstate := .wait })
    t.tsSlot = 0xFFFB ∧ t.tickPend = 1 := by decide +kernel

/-- SC5: TICK_OVERFLOW, precise. -/
theorem test_tick_overflow :
    let t := after (exec .tick { small with tickPend := 0xFFFF, wstart := 3, tsSlot := 9, timeNow := 100 })
    t.fatal = true ∧ t.faultCause = 1 ∧ t.tickPend = 0xFFFF ∧ t.tsSlot = 9 ∧ t.resp = answer 5 1 := by decide +kernel

/-- RB3: the write cursor and the sequence number wrap. -/
theorem test_sensorOk_wraps :
    let t := after (exec (.sensorOk 7 8 9)
      { small with wc := 0xFFFFFFFF, rc := 0xFFFFFFFE, pstate := .wait, seq := 0xFFFF, tsSnap := 3 })
    t.slotRead 7 = ⟨0xFFFF, 3, 7, 8, 9⟩ ∧ t.wc = 0 ∧ t.occ = 2 ∧ t.seq = 0 ∧ t.totalCnt = 1 := by decide +kernel

/-- E5: a full buffer drops the sample but uses its sequence number. -/
theorem test_sensorOk_drops :
    let t := after (exec (.sensorOk 1 1 1) { small with wc := 8, pstate := .wait, seq := 8 })
    t.wc = 8 ∧ t.mem = [] ∧ t.overflowCnt = 1 ∧ t.totalCnt = 0 ∧ t.seq = 9 ∧ t.pstate = .idle := by decide +kernel

/-- PR7 and PR8: the threshold is an edge. -/
theorem test_sensorOk_threshold_edge :
    (after (exec (.sensorOk 0 0 0) { small with wc := 3, pstate := .wait })).burstPend = 1 ∧
    (after (exec (.sensorOk 0 0 0) { small with wc := 4, pstate := .wait })).burstPend = 0 := by decide +kernel

/-- PR3 and PR2. -/
theorem test_sensorErr :
    (after (exec .sensorErr { small with pstate := .wait, seq := 5 })).readFailCnt = 1 ∧
    (after (exec .sensorErr { small with pstate := .wait, seq := 5 })).seq = 5 ∧
    (after (exec .sensorErr small)).protoErr = true := by decide +kernel

/-- BC6. -/
theorem test_txOk_paces :
    let t := after (exec .txOk { small with bstate := .txw, pktN := 2 })
    t.txOkCnt = 1 ∧ t.pktI = 1 ∧ t.bstate = .pace ∧ t.out = some .paceReq := by decide +kernel

/-- BC7: CONTINUOUS mode does not pace. -/
theorem test_txOk_continuous :
    let t := after (exec .txOk { small with bstate := .txw, pktN := 2, mode := .continuous })
    t.bstate = .pkt ∧ t.out = none := by decide +kernel

/-- BC8: the failed last packet is consumed. -/
theorem test_txFail_finishes :
    let t := after (exec .txFail { small with bstate := .txw, pktN := 2, pktI := 1, wc := 5, timeNow := 9 })
    t.rc = 4 ∧ t.wstart = 9 ∧ t.burstId = 1 ∧ t.bstate = .idle ∧ t.txFailCnt = 1 ∧ t.pktI = 2 := by decide +kernel

/-- BC10: not awaited. -/
theorem test_paceDone_unexpected :
    let t := after (exec .paceDone { small with bstate := .txw })
    t.bstate = .txw ∧ t.protoErr = true ∧ t.resp = answer 4 0 := by decide +kernel

theorem test_paceDone :
    (after (exec .paceDone { small with bstate := .pace, mode := .continuous })).bstate = .pkt := by decide +kernel

/-! ## Internal steps, illegal words and reset -/

/-- R119's example. -/
theorem test_producerFetch :
    let t := after (step { small with tickPend := 2, tsSlot := 7, schedule := [.internal .producerFetch 0] })
    t.tickPend = 1 ∧ t.tsSnap = 7 ∧ t.pstate = .wait ∧ t.out = some .sensorReq := by decide +kernel

/-- BC3 and BC4: 25 < 23 + 3 drains, 26 starts a burst of two packets. -/
theorem test_burstWake_unit_gate :
    let s (u : U16) : State := { small with conn := true, subData := true, unit := u, wc := 4, burstPend := 1,
                                            schedule := [.internal .burstWake 0] }
    (after (step (s 25))).unitSkipCnt = 1 ∧ (after (step (s 25))).rc = 4 ∧ (after (step (s 25))).drainDropCnt = 4 ∧
    (after (step (s 26))).pktN = 2 ∧ (after (step (s 26))).bstate = .pkt := by decide +kernel

/-- RB8 with CK5's bytes: the packet crosses the end of the slot array. -/
theorem test_burstPacket_wraps :
    let s : State := { (small.slotWrite 7 ⟨0x0F, 5, 6, 7, 8⟩).slotWrite 0 ⟨0x10, 1, 2, 3, 4⟩ with
      rc := 7, wc := 11, burstId := 0x80, conn := true, bstate := .pkt, pktN := 2,
      schedule := [.internal .burstPacket 0] }
    (after (step s)).out = some (.txReq
      [0x80, 0x0f, 0x00, 0x05, 0x00, 0x06, 0x00, 0x07, 0x00, 0x08, 0x00, 0x10, 0x00, 0x01, 0x00, 0x02, 0x00, 0x03,
       0x00, 0x04, 0x00, 0x0b, 0x90]) := by decide +kernel

/-- BC12: an abort before the first packet. -/
theorem test_burstPacket_aborts :
    let t := after (step { small with bstate := .pkt, pktN := 2, burstId := 0xFF, wc := 4,
                                      schedule := [.internal .burstPacket 20] })
    t.rc = 0 ∧ t.abortCnt = 1 ∧ t.burstId = 0 ∧ t.wstart = 20 ∧ t.bstate = .idle := by decide +kernel

/-- §2.9: ILLEGAL before HALTED, and HALTED for TICK. -/
theorem test_fatal_answers :
    let s (w : Word64) : State := { small with fatal := true, faultCause := 1, schedule := [.request w 0] }
    (after (step (s 0x0600000000000000))).resp = answer 3 0 ∧
    (after (step (s 0x3000000000000000))).resp = answer 5 1 := by decide +kernel

/-- R180, R181: `rst` clears the fatal state and forgets the read; the configuration stays. -/
theorem test_reset :
    let t := after (step { small with fatal := true, faultCause := 1, pstate := .wait, wc := 3, schedule := [.reset] })
    t.fatal = false ∧ t.pstate = .idle ∧ t.wc = 0 ∧ t.resp = none ∧ t.cfg = Config.cfgS := by decide +kernel

/-- The host's placing of a word: it is the very next step's. -/
theorem test_withFetchWord :
    (after (step (State.reset.withFetchWord 64 0x1000000000000000))).conn = true := by decide +kernel

/-! ## Ring buffer and checksum values -/

/-- RB1 and RB2. -/
theorem test_index :
    Config.index Config.cfgD 1024 = 0 ∧ Config.index Config.cfgS 0xFFFFFFFF = 7 := by decide +kernel

/-- RB6 and RB7. -/
theorem test_advance :
    State.advance { small with wc := 6, rc := 2 } 4 = .done { small with wc := 6, rc := 6 } ∧
    State.advance { small with wc := 6, rc := 2 } 6 = .fatal .cursorInvariant := by decide +kernel

/-- E1. -/
theorem test_serialise :
    Sample.serialise ⟨0x1234, 0x0010, 100, 0xFF9C, 0x8000⟩ =
      [0x34, 0x12, 0x10, 0x00, 0x64, 0x00, 0x9c, 0xff, 0x00, 0x80] := by decide +kernel

/-- §2.5. -/
theorem test_crc_short : crc16 [0x00] = 0xE1F0 ∧ crc16 [0xFF] = 0xFF00 ∧ crc16 [0x41] = 0xB915 ∧ crc16 [0, 0] = 0x1D0F := by
  decide +kernel

/-- CK1. -/
theorem test_frame :
    frame (packetBody 0 [⟨0, 1, 1, 0xFFFE, 3⟩, ⟨1, 2, 0xFFFF, 0, 16384⟩]) =
      [0x00, 0x00, 0x00, 0x01, 0x00, 0x01, 0x00, 0xfe, 0xff, 0x03, 0x00, 0x01, 0x00, 0x02, 0x00, 0xff, 0xff, 0x00, 0x00,
       0x00, 0x40, 0x6f, 0x1e] := by decide +kernel

/-! ## Witnesses: concrete states that meet the hypotheses of the statements -/

/-- A state of CFG-S at a burst's first transport wait: two packets to send, the first one out, a peer there.
Four samples were pushed from logical number 0xFFFFFFFE on, so the cursors have wrapped. -/
def midBurst : State :=
  let s := { small with wc := 0xFFFFFFFE, rc := 0xFFFFFFFE }
  { (((s.push ⟨1, 1, 1, 1, 1⟩).push ⟨2, 2, 2, 2, 2⟩).push ⟨3, 3, 3, 3, 3⟩).push ⟨4, 4, 4, 4, 4⟩ with
    seq := 5, conn := true, subData := true, unit := 26, bstate := .txw, pktN := 2, pktI := 0, pstate := .wait }

theorem midBurst_inv : midBurst.Inv where
  occ := by unfold State.OccOk; decide +kernel
  mem := by unfold State.MemOk; decide +kernel
  live := (State.liveWritten_iff _).2 (by decide +kernel)
  burst := by unfold State.BurstOk; decide +kernel
  signal := by unfold State.SignalOk; decide +kernel
  fault := by unfold State.FaultOk; decide +kernel

/-- `midBurst` with a stimulus to take. -/
def midBurstThen (x : Stimulus) : State := { midBurst with schedule := [x] }

theorem midBurstThen_inv (x : Stimulus) : (midBurstThen x).Inv :=
  ⟨midBurst_inv.occ, midBurst_inv.mem, midBurst_inv.live, midBurst_inv.burst, midBurst_inv.signal, midBurst_inv.fault⟩

/-- The outcome is a next state. -/
def isNext : StepResult → Bool
  | .next _ => true
  | .fault _ => false
  | .refused _ => false

theorem eq_next_after {o : StepResult} (h : isNext o = true) : o = .next (after o) := by
  cases o with
  | next t => rfl
  | fault f => cases f
  | refused r => cases h

theorem witness_SensorOkStoresTheSample :
    midBurst.fatal = false ∧ midBurst.pstate = .wait ∧ midBurst.occ.toNat < 2 ^ midBurst.cfg.capLog ∧
    (midBurst.occ.toNat + 1 = midBurst.cfg.thresh → midBurst.burstPend.toNat ≠ 0xFFFF) := by decide +kernel

/-- At the threshold itself. -/
theorem witness_SensorOkStoresTheSample_threshold :
    let s : State := { small with wc := 3, pstate := .wait }
    s.fatal = false ∧ s.pstate = .wait ∧ s.occ.toNat < 2 ^ s.cfg.capLog ∧ s.occ.toNat + 1 = s.cfg.thresh ∧
    s.burstPend.toNat ≠ 0xFFFF := by decide +kernel

theorem witness_SensorOkDropsOnAFullBuffer :
    let s : State := { small with wc := 8, pstate := .wait }
    s.fatal = false ∧ s.pstate = .wait ∧ s.occ.toNat = 2 ^ s.cfg.capLog := by decide +kernel

theorem witness_SensorOkAssertionsArePrecise :
    let s : State := { small with wc := 9, pstate := .wait }
    let r : State := { small with wc := 3, pstate := .wait, burstPend := 0xFFFF }
    (s.fatal = false ∧ s.pstate = .wait ∧ 2 ^ s.cfg.capLog < s.occ.toNat) ∧
    (r.fatal = false ∧ r.pstate = .wait ∧ r.occ.toNat < 2 ^ r.cfg.capLog ∧ r.occ.toNat + 1 = r.cfg.thresh ∧
      r.burstPend.toNat = 0xFFFF) := by decide +kernel

theorem witness_TxResultGoesOnWithTheBurst :
    midBurst.fatal = false ∧ midBurst.bstate = .txw ∧ midBurst.pktI + 1 ≠ midBurst.pktN := by decide +kernel

theorem witness_TxResultFinishesTheBurst :
    let s : State := { midBurst with pktI := 1 }
    let r : State := { small with bstate := .txw, pktI := 1, pktN := 2, wc := 3 }
    (s.fatal = false ∧ s.bstate = .txw ∧ s.pktI + 1 = s.pktN ∧ s.pktN.toNat * s.cfg.spp ≤ s.occ.toNat) ∧
    (r.fatal = false ∧ r.bstate = .txw ∧ r.pktI + 1 = r.pktN ∧ r.occ.toNat < r.pktN.toNat * r.cfg.spp) := by
  decide +kernel

theorem witness_UnawaitedEventsAreUnexpected :
    small.fatal = false ∧ small.pstate ≠ .wait ∧ small.bstate ≠ .txw ∧ small.bstate ≠ .pace := by decide +kernel

theorem witness_FatalStateRefusesRequests :
    let s : State := { small with fatal := true, faultCause := 1 }
    s.fatal = true ∧ Instr.tick ≠ .getMode ∧ ∀ idx, Instr.tick ≠ .readReg idx :=
  ⟨rfl, by decide, by intro idx h; cases h⟩

theorem witness_StepRunsTheDecodedRequest :
    (midBurstThen (.request 0x2200000000000000 7)).schedule = .request 0x2200000000000000 7 :: [] ∧
    decode 0x2200000000000000 = .instr .txOk ∧ Instr.txOk.wellFormed = true := by decide +kernel

theorem test_no_row_matches :
    (opcodeRows.all fun row => (0x2200000000000001 : Word64) &&& row.2 != row.1) = true := by decide +kernel

theorem witness_IllegalWordsAreAnsweredAndChangeNothing :
    (midBurstThen (.request 0x2200000000000001 7)).schedule = .request 0x2200000000000001 7 :: [] ∧
    ∀ row ∈ opcodeRows, (0x2200000000000001 : Word64) &&& row.2 ≠ row.1 :=
  ⟨rfl, by simpa using List.all_eq_true.1 test_no_row_matches⟩

theorem witness_ProducerFetchTakesOneWake :
    let s : State := { small with tickPend := 1, schedule := [.internal .producerFetch 3] }
    s.schedule = .internal .producerFetch 3 :: [] ∧ s.fatal = false ∧ s.pstate = .idle ∧ 0 < s.tickPend.toNat := by
  decide +kernel

theorem witness_BurstWakeGatesTheBurst :
    let s : State := { midBurst with bstate := .idle, burstPend := 1, schedule := [.internal .burstWake 3] }
    s.schedule = .internal .burstWake 3 :: [] ∧ s.fatal = false ∧ s.bstate = .idle ∧ 0 < s.burstPend.toNat := by
  decide +kernel

theorem witness_BurstPacketSendsTheNextSamples :
    let s : State := { midBurst with bstate := .pkt, schedule := [.internal .burstPacket 3] }
    s.schedule = .internal .burstPacket 3 :: [] ∧ s.fatal = false ∧ s.bstate = .pkt ∧ s.conn = true := by
  decide +kernel

theorem witness_BurstPacketAbortsWithoutAPeer :
    let s : State := { midBurst with bstate := .pkt, conn := false, pktI := 1, schedule := [.internal .burstPacket 3] }
    s.schedule = .internal .burstPacket 3 :: [] ∧ s.fatal = false ∧ s.bstate = .pkt ∧ s.conn = false ∧
    s.pktI.toNat * s.cfg.spp ≤ s.occ.toNat := by decide +kernel

/-- Each disjunct: fatal, the producer waiting, no tick pending, a burst running, no wake posted, no packet to build. -/
theorem witness_DisabledInternalStepsDoNothing :
    let f (u : InternalStep) : State := { small with schedule := [.internal u 3] }
    (f .producerFetch).schedule = .internal .producerFetch 3 :: [] ∧
    (f .burstWake).schedule = .internal .burstWake 3 :: [] ∧
    (f .burstPacket).schedule = .internal .burstPacket 3 :: [] ∧
    { f .burstWake with fatal := true }.fatal = true ∧ (f .producerFetch).tickPend = 0 ∧
    { f .producerFetch with pstate := .wait }.pstate = .wait ∧ (f .burstWake).burstPend = 0 ∧
    { f .burstWake with bstate := .pkt }.bstate ≠ .idle ∧ (f .burstPacket).bstate ≠ .pkt := by decide +kernel

theorem witness_ResetStepGivesTheResetValues : (midBurstThen .reset).schedule = .reset :: [] := rfl

theorem witness_DecodeOfEncodeIsTheInstruction : (Instr.setMode 0xFF true).wellFormed = true := rfl

theorem witness_EncodeOfDecodeIsTheWord : decode 0x1200000000000101 = .instr (.linkSubscribe true true) := by
  decide +kernel

theorem witness_EveryStepKeepsTheInvariant :
    (midBurstThen (.request 0x2200000000000000 7)).Inv ∧
    step (midBurstThen (.request 0x2200000000000000 7)) =
      .next (after (step (midBurstThen (.request 0x2200000000000000 7)))) :=
  ⟨midBurstThen_inv _, eq_next_after (by decide +kernel)⟩

theorem witness_EveryStepKeepsTheOccupancyBound :
    let s : State := { small with wc := 8, pstate := .wait, schedule := [.request 0x2000000000000000 0] }
    (s.wc - s.rc).toNat ≤ 2 ^ s.cfg.capLog ∧ step s = .next (after (step s)) := ⟨by decide +kernel, eq_next_after (by decide +kernel)⟩

theorem witness_EveryStepKeepsTheMemoryCanonical :
    (midBurstThen (.request 0x2000000000000000 0)).MemOk ∧
    step (midBurstThen (.request 0x2000000000000000 0)) =
      .next (after (step (midBurstThen (.request 0x2000000000000000 0)))) := ⟨(midBurstThen_inv _).mem, eq_next_after (by decide +kernel)⟩

/-- A state that meets the invariant with a full wake count, and the TICK that makes it fatal. -/
def fullWakes : State := { midBurst with tickPend := 0xFFFF, schedule := [.request 0x3000000000000000 0] }

theorem witness_OnlyTickOverflowIsReachable :
    fullWakes.Inv ∧ fullWakes.fatal = false ∧ step fullWakes = .next (after (step fullWakes)) ∧
    (after (step fullWakes)).fatal = true :=
  ⟨⟨midBurst_inv.occ, midBurst_inv.mem, midBurst_inv.live, midBurst_inv.burst, midBurst_inv.signal, midBurst_inv.fault⟩,
    rfl, eq_next_after (by decide +kernel), by decide +kernel⟩

theorem witness_UnreadSamplesAreNeverOverwritten :
    let s := midBurstThen (.request 0x2000000000000000 0)
    s.OccOk ∧ step s = .next (after (step s)) ∧ ((0 : U32) - s.rc).toNat < s.occ.toNat ∧
    ((0 : U32) - (after (step s)).rc).toNat < (after (step s)).occ.toNat :=
  ⟨(midBurstThen_inv _).occ, eq_next_after (by decide +kernel), by decide +kernel, by decide +kernel⟩

/-- P4's stall: idle, no wake posted, the buffer at the threshold. -/
def stalled : State := { midBurst with bstate := .idle, schedule := [.request 0x2000000000000000 0] }

theorem witness_OnlyResetEndsTheThresholdStall :
    stalled.Stalled ∧ stalled.noReset ∧ step stalled = .next (after (step stalled)) :=
  ⟨⟨rfl, rfl, by decide +kernel⟩, by unfold State.noReset; decide +kernel, eq_next_after (by decide +kernel)⟩

theorem witness_NoStepChangesTheConfiguration :
    step (midBurstThen .reset) = .next (after (step (midBurstThen .reset))) := eq_next_after (by decide +kernel)

theorem witness_OnlySensorOkWritesTheWriteSide :
    let s := midBurstThen (.request 0x2000000000000000 0)
    s.noReset ∧ step s = .next (after (step s)) ∧ (after (step s)).wc ≠ s.wc :=
  ⟨by unfold State.noReset; decide +kernel, eq_next_after (by decide +kernel), by decide +kernel⟩

theorem witness_OnlyTheBurstControllerMovesTheReadCursor :
    let s : State := { midBurst with pktI := 1, schedule := [.request 0x2300000000000000 0] }
    s.noReset ∧ step s = .next (after (step s)) ∧ (after (step s)).rc ≠ s.rc :=
  ⟨by unfold State.noReset; decide +kernel, eq_next_after (by decide +kernel), by decide +kernel⟩

theorem witness_ModeChangesOnlyUnderThePermissionRule :
    let s := midBurstThen (.request 0x0200000000000101 0)
    s.noReset ∧ step s = .next (after (step s)) ∧ (after (step s)).mode ≠ s.mode :=
  ⟨by unfold State.noReset; decide +kernel, eq_next_after (by decide +kernel), by decide +kernel⟩

theorem witness_OnlyLinkWordsWriteTheLinkRecord :
    let s := midBurstThen (.request 0x1100000000000000 0)
    s.noReset ∧ step s = .next (after (step s)) ∧ (after (step s)).conn ≠ s.conn :=
  ⟨by unfold State.noReset; decide +kernel, eq_next_after (by decide +kernel), by decide +kernel⟩

/-- One step in which each counter of the statement moves; the last sample that fits is stored at an occupancy of
`CAP - 1`, the unit gate closes at 25. -/
theorem witness_CountersHaveTheirWritersOnly :
    let w (s : State) (x : Stimulus) : State := after (step { s with schedule := [x] })
    let wake : State := { midBurst with bstate := .idle, burstPend := 1 }
    { midBurst with schedule := [.request 0x2200000000000000 0] }.noReset ∧
    (w { midBurst with wc := 5 } (.request 0x2000000000000000 0)).totalCnt ≠ midBurst.totalCnt ∧
    (w { midBurst with wc := 6 } (.request 0x2000000000000000 0)).overflowCnt ≠ 0 ∧
    (w midBurst (.request 0x2100000000000000 0)).readFailCnt ≠ 0 ∧
    (w { wake with conn := false } (.internal .burstWake 0)).drainDropCnt ≠ 0 ∧
    (w { wake with conn := false } (.internal .burstWake 0)).notReadyCnt ≠ 0 ∧
    (w { wake with unit := 25 } (.internal .burstWake 0)).unitSkipCnt ≠ 0 ∧
    (w { wake with unit := 25 } (.internal .burstWake 0)).drainDropCnt ≠ 0 ∧
    (w midBurst (.request 0x2200000000000000 0)).txOkCnt ≠ 0 ∧
    (w midBurst (.request 0x2300000000000000 0)).txFailCnt ≠ 0 ∧
    (w { midBurst with bstate := .pkt, conn := false } (.internal .burstPacket 0)).abortCnt ≠ 0 := by
  unfold State.noReset; decide +kernel

/-- One step in which each register of the statement moves. -/
theorem witness_ProducerRegistersHaveTheirWritersOnly :
    let w (s : State) (x : Stimulus) : State := after (step { s with schedule := [x] })
    let idle : State := { midBurst with pstate := .idle, tickPend := 1, tsSlot := 4 }
    { midBurst with schedule := [.request 0x3000000000000000 9] }.noReset ∧
    (w midBurst (.request 0x3000000000000000 9)).tsSlot ≠ midBurst.tsSlot ∧
    (w midBurst (.request 0x3000000000000000 9)).tickPend ≠ midBurst.tickPend ∧
    (w idle (.internal .producerFetch 0)).tsSnap ≠ idle.tsSnap ∧
    (w midBurst (.request 0x2000000000000000 0)).seq ≠ midBurst.seq ∧
    (w midBurst (.request 0x2100000000000000 0)).pstate ≠ midBurst.pstate := by
  unfold State.noReset; decide +kernel

/-- One step for each kind of transition the table has, and one that stays idle. -/
theorem witness_BurstStateFollowsTheTransitionTable :
    let w (s : State) (x : Stimulus) : State := after (step { s with schedule := [x] })
    let wake : State := { midBurst with bstate := .idle, burstPend := 1 }
    { wake with schedule := [.internal .burstWake 0] }.noReset ∧
    (w wake (.internal .burstWake 0)).bstate = .pkt ∧
    (w { midBurst with bstate := .pkt, conn := false } (.internal .burstPacket 0)).bstate = .idle ∧
    (w { midBurst with bstate := .pkt } (.internal .burstPacket 0)).bstate = .txw ∧
    (w { midBurst with pktI := 1 } (.request 0x2200000000000000 0)).bstate = .idle ∧
    (w midBurst (.request 0x2200000000000000 0)).bstate = .pace ∧
    (w { midBurst with mode := .continuous } (.request 0x2200000000000000 0)).bstate = .pkt ∧
    (w { midBurst with bstate := .pace } (.request 0x3100000000000000 0)).bstate = .pkt ∧
    (w { wake with conn := false } (.internal .burstWake 0)).bstate = .idle := by
  unfold State.noReset; decide +kernel

theorem witness_TheBurstControllerLeavesTheProducerAlone :
    nextIsBurstStep (midBurstThen (.request 0x2200000000000000 0)) ∧
    step (midBurstThen (.request 0x2200000000000000 0)) =
      .next (after (step (midBurstThen (.request 0x2200000000000000 0)))) :=
  ⟨by unfold nextIsBurstStep nextIsTxResult; decide +kernel, eq_next_after (by decide +kernel)⟩

theorem witness_TheFatalStateIsFrozenUntilReset :
    let s : State := { midBurst with fatal := true, faultCause := 1, schedule := [.request 0x2200000000000000 0] }
    s.fatal = true ∧ s.noReset ∧ step s = .next (after (step s)) :=
  ⟨rfl, by unfold State.noReset; decide +kernel, eq_next_after (by decide +kernel)⟩

/-- PWR moves, and PROTO_ERR is set; once set it is there to stay. -/
theorem witness_PowerLatchAndProtocolErrorWriters :
    let s := midBurstThen (.request 0x0300000000000001 0)
    let r := midBurstThen (.request 0x3100000000000000 0)
    s.noReset ∧ r.noReset ∧ (after (step s)).pwr ≠ s.pwr ∧ r.protoErr = false ∧ (after (step r)).protoErr = true := by
  unfold State.noReset; decide +kernel

/-- One step for each kind of output. -/
theorem witness_OutputsComeFromTheirStepsOnly :
    let w (s : State) (x : Stimulus) : State := after (step { s with schedule := [x] })
    (w { midBurst with pstate := .idle, tickPend := 1 } (.internal .producerFetch 0)).out = some .sensorReq ∧
    ((w { midBurst with bstate := .pkt } (.internal .burstPacket 0)).out.isSome = true) ∧
    (w midBurst (.request 0x2200000000000000 0)).out = some .paceReq := by decide +kernel

theorem witness_OtherRequestsLeaveTheSlotsAlone :
    (∀ x y z, Instr.txOk ≠ .sensorOk x y z) ∧ exec .txOk midBurst = .next (after (exec .txOk midBurst)) :=
  ⟨(by intro x y z h; cases h), eq_next_after (by decide +kernel)⟩

theorem witness_CrcDetectsEverySingleBitFlip : (7 : Nat) < 8 := by decide

end Sys2Proof.Tests
end

section
/-! SUPPORT. The request word as its three fields (R83), and the opcode map as match and mask words (R85 to R92):
what an accepted word looks like, so that a word no row matches is ILLEGAL (R94). -/

namespace Sys2Proof

/-- A request word is its fields `OPC`, `RSV` and `PAY`, high field first (R83). -/
theorem opcField_append_rsvField_append_payField (w : Word64) :
    (opcField w ++ rsvField w ++ payField w : Word64) = w := by
  have hhead : opcField w ++ rsvField w = w.extractLsb' 48 16 :=
    BitVec.extractLsb'_append_extractLsb'_eq_extractLsb' (by decide)
  rw [hhead]
  exact BitVec.extractLsb'_append_extractLsb' (w := 16) (len := 48)

/-- The match word of a row: its opcode, every other bit 0 (R85). -/
def OpcodeRow.matchWord (r : OpcodeRow) : Word64 := r.opc ++ 0#8 ++ 0#48

/-- The mask of a row: `OPC`, `RSV` and the `PAY` bits its format leaves unused (R86 to R92, R94). -/
def OpcodeRow.maskWord (r : OpcodeRow) : Word64 := BitVec.allOnes 8 ++ BitVec.allOnes 8 ++ r.format.unusedPay

/-- The statements' table of match and mask words is the decoder's opcode map, row by row. -/
theorem opcodeRows_eq_map_opcodeMap :
    Spec.opcodeRows = opcodeMap.map fun r => (r.matchWord, r.maskWord) := by decide +kernel

/-- A row found for an `OPC` value is a row of the map with that opcode. -/
theorem mem_and_opc_eq_of_opcodeRow_eq_some {opc : Byte} {r : OpcodeRow} (h : opcodeRow opc = some r) :
    r ∈ opcodeMap ∧ r.opc = opc :=
  ⟨List.mem_of_find?_eq_some h, by simpa using List.find?_some h⟩

/-- A word with the row's opcode that passes R94's checks (b) and (c) matches the row under its mask. -/
theorem and_maskWord_eq_matchWord {w : Word64} {r : OpcodeRow} (hopc : r.opc = opcField w) (hrsv : rsvField w = 0)
    (hpay : payField w &&& r.format.unusedPay = 0) : w &&& r.maskWord = r.matchWord := by
  rw [← opcField_append_rsvField_append_payField w, OpcodeRow.maskWord, OpcodeRow.matchWord, BitVec.and_append,
    BitVec.and_append, BitVec.and_allOnes, BitVec.and_allOnes, hopc, hrsv, hpay]
  rfl

/-- An accepted word passed the three checks of R94, and its operands are those of its row. -/
theorem exists_row_of_decode_eq_instr {w : Word64} {i : Instr} (h : decode w = .instr i) :
    ∃ r, opcodeRow (opcField w) = some r ∧ rsvField w = 0 ∧ payField w &&& r.format.unusedPay = 0 ∧
      operandsOf r.op (payField w) = i := by
  unfold decode at h
  split at h
  · cases h
  · next r hrow =>
    split_ifs at h with hrsv hpay
    exact ⟨r, hrow, not_not.1 hrsv, not_not.1 hpay, Decoded.instr.inj h⟩

/-- Every accepted word matches a row of the opcode map. -/
theorem exists_mem_opcodeRows_of_decode_eq_instr {w : Word64} {i : Instr} (h : decode w = .instr i) :
    ∃ row ∈ Spec.opcodeRows, w &&& row.2 = row.1 := by
  obtain ⟨r, hrow, hrsv, hpay, -⟩ := exists_row_of_decode_eq_instr h
  obtain ⟨hmem, hopc⟩ := mem_and_opc_eq_of_opcodeRow_eq_some hrow
  rw [opcodeRows_eq_map_opcodeMap]
  exact ⟨_, List.mem_map_of_mem hmem, and_maskWord_eq_matchWord hopc hrsv hpay⟩

/-- A word that no row of the opcode map matches decodes to no instruction. -/
theorem exists_decode_eq_illegal {w : Word64} (h : ∀ row ∈ Spec.opcodeRows, w &&& row.2 ≠ row.1) :
    ∃ e, decode w = .illegal e := by
  cases hd : decode w with
  | instr i =>
    obtain ⟨row, hmem, hmatch⟩ := exists_mem_opcodeRows_of_decode_eq_instr hd
    exact absurd hmatch (h row hmem)
  | illegal e => exact ⟨e, rfl⟩

namespace Machine

/-- An illegal word is answered before any meaning runs, so `FATAL` is not asked (R94, R97). -/
theorem handleRequest_of_decode_eq_illegal {w : Word64} {e : DecodeError} (h : decode w = .illegal e) (s : State) :
    handleRequest w s = .next s.answerIllegal := by
  simp [handleRequest, h]

/-- The answer to an illegal word, `CODE = 3` and `DATA = 0`, is all that it leaves on the state (R94 to R96). -/
theorem State.answerIllegal_eq_answering (s : State) : s.answerIllegal = Spec.answering s 3 0 := by
  have hword : responseWord .illegal 0 = BitVec.ofNat 64 (3 + 2 ^ 32 * 0) := by decide
  simp only [State.answerIllegal, State.respond, Spec.answering, hword]

/-- Settles O19: every accepted word matches a row, so the word is illegal, and handling it only answers. -/
theorem illegalWordsAreAnsweredAndChangeNothing : Obligations.IllegalWordsAreAnsweredAndChangeNothing := by
  intro s w now rest hsched hrows
  obtain ⟨e, hillegal⟩ := exists_decode_eq_illegal hrows
  rw [step_request hsched, handleRequest_of_decode_eq_illegal hillegal, State.answerIllegal_eq_answering]
  rfl

end Machine
end Sys2Proof
end

section
/-! SUPPORT. The slot of a cursor value (R104), an awaited SENSOR_OK on a buffer with room and on a full one
(R107, R108, R120 to R122), and how a step can move the cursors (R105 to R113). -/

namespace Sys2Proof.Machine

/-! ## The slot of a cursor value -/

/-- `Index(c)` keeps the low bits of the cursor, which is its remainder by `CAP` (R104). -/
theorem Config.index_eq_mod (c : Config) (x : U32) : Config.index c x = x.toNat % 2 ^ c.capLog := by
  have hmask : c.mask.toNat = 2 ^ c.capLog - 1 := by
    have hcap := Config.cap_le c
    rw [Config.mask, BitVec.toNat_ofNat, Nat.mod_eq_of_lt (by omega)]
    rfl
  rw [Config.index, BitVec.toNat_and, hmask, Nat.and_two_pow_sub_one_eq_mod]

/-- `CAP` divides `2^32`, so the wrap of the cursor is no break in the slots (R104). -/
theorem Config.index_add_one (c : Config) (x : U32) :
    Config.index c (x + 1) = (Config.index c x + 1) % 2 ^ c.capLog := by
  have hdvd : 2 ^ c.capLog ∣ 2 ^ 32 := Nat.pow_dvd_pow 2 (Nat.le_succ_of_le c.capLog_le)
  rw [Config.index_eq_mod, Config.index_eq_mod, BitVec.toNat_add, Nat.mod_mod_of_dvd _ hdvd, Nat.mod_add_mod]
  rfl

/-- Settles O53, by the two equations of `Index`. -/
theorem slotIndexIsTheCursorModuloCapacity : Obligations.SlotIndexIsTheCursorModuloCapacity :=
  fun c x => ⟨Config.index_eq_mod c x, Config.index_add_one c x⟩

/-! ## An awaited SENSOR_OK -/

/-- A response word is the number `CODE + 2^32 * DATA` (R95). -/
theorem responseWord_eq_ofNat (c : RespCode) (d : U32) :
    responseWord c d = BitVec.ofNat 64 (c.code.toNat + 2 ^ 32 * d.toNat) := by
  apply BitVec.eq_of_toNat_eq
  have hcode := c.code.isLt
  rw [responseWord, BitVec.toNat_append, BitVec.toNat_append, ← Nat.shiftLeft_add_eq_or_of_lt hcode,
    BitVec.toNat_ofNat, Nat.or_zero, ← Nat.shiftLeft_add, Nat.shiftLeft_eq, BitVec.toNat_ofNat]
  omega

/-- The model's response is the statements' answer with the same code and data (R95). -/
theorem State.respond_eq_answering (s : State) (c : RespCode) (d : U32) :
    s.respond c d = Spec.answering s c.code.toNat d.toNat := by
  rw [State.respond, responseWord_eq_ofNat, Spec.answering]

/-- A SENSOR_OK that is awaited builds the sample and enqueues or drops it (R120). -/
theorem exec_sensorOk_of_wait {s : State} (hrun : s.fatal = false) (hwait : s.pstate = .wait) (x y z : U16) :
    exec (.sensorOk x y z) s = .next ((s.acceptSample x y z).orFatal s) := by
  simp only [exec, execSensorOk, State.unlessHalted_running hrun, if_pos hwait]

/-- On a full buffer the sample is dropped and its sequence number used (R108, R120, R121). -/
theorem State.acceptSample_of_full {s : State} (hfull : s.occ.toNat = s.cfg.cap) (x y z : U16) :
    s.acceptSample x y z =
      .done { s with overflowCnt := s.overflowCnt + 1, seq := s.seq + 1, pstate := .idle } := by
  obtain ⟨-, he⟩ | ⟨hroom, -⟩ | ⟨hroom, -⟩ | ⟨hover, -⟩ | ⟨hroom, -⟩ := s.acceptSample_cases x y z
  · exact he
  all_goals omega

/-- Settles O11, by the drop of a sample on a full buffer. -/
theorem sensorOkDropsOnAFullBuffer : Obligations.SensorOkDropsOnAFullBuffer := by
  intro s x y z hrun hwait hfull
  rw [exec_sensorOk_of_wait hrun hwait, State.acceptSample_of_full hfull, Attempt.orFatal_done,
    State.respond_eq_answering]
  rfl

/-- The state an accepted sample leaves when it is stored: pushed, its sequence number used, the producer idle,
and one wake posted exactly at the threshold (R107, R120, R122). -/
def State.stored (s : State) (x y z : U16) : State :=
  { s.push (s.sampleOf x y z) with
    seq := s.seq + 1, pstate := .idle,
    burstPend := if s.occ.toNat + 1 = s.cfg.thresh then s.burstPend + 1 else s.burstPend }

/-- Where the buffer has room, and a wake too if one is to be posted, the sample is stored (R121, R122). -/
theorem State.acceptSample_of_room {s : State} (hroom : s.occ.toNat < s.cfg.cap)
    (hwake : s.occ.toNat + 1 = s.cfg.thresh → s.burstPend ≠ 0xFFFF) (x y z : U16) :
    s.acceptSample x y z = .done (s.stored x y z) := by
  obtain ⟨hfull, -⟩ | ⟨-, hbelow, he⟩ | ⟨-, hedge, -, he⟩ | ⟨hover, -⟩ | ⟨-, hedge, hpend, -⟩ :=
    s.acceptSample_cases x y z
  · omega
  · rw [he, State.stored, if_neg hbelow]; rfl
  · rw [he, State.stored, if_pos hedge]
  · omega
  · exact absurd hpend (hwake hedge)

/-- The slot of `WC` then reads as the record built (R107). -/
theorem State.slotRead_stored (s : State) (x y z : U16) :
    (s.stored x y z).slotRead (Config.index s.cfg s.wc) = s.sampleOf x y z :=
  s.slotRead_slotWrite_same (Config.index s.cfg s.wc) (s.sampleOf x y z)

/-- A byte outside the ten of a slot is as before that slot was written (R76). -/
theorem State.read?_slotWrite_of_outside (s : State) {i a : Nat} (r : Sample)
    (h : a < slotAddr i ∨ slotAddr i + 10 ≤ a) : (s.slotWrite i r).mem.read? a = s.mem.read? a := by
  rw [State.slotWrite_mem, Memory.read?_writeBytes, if_neg (by rw [Sample.bytes_length]; omega)]

/-- Settles O10: the sample is stored, the slot written is the one at `WC mod CAP`, and no other byte is. -/
theorem sensorOkStoresTheSample : Obligations.SensorOkStoresTheSample := by
  intro s x y z hrun hwait hroom hwake
  have hslot : Spec.slotOf s.wc s.cfg = Config.index s.cfg s.wc := (Config.index_eq_mod s.cfg s.wc).symm
  have hpend : s.occ.toNat + 1 = s.cfg.thresh → s.burstPend ≠ 0xFFFF := by
    intro hedge hfull
    exact hwake hedge (congrArg BitVec.toNat hfull)
  refine ⟨(s.stored x y z).respond .ok 0, ?_, ?_, ?_, ?_⟩
  · rw [exec_sensorOk_of_wait hrun hwait, State.acceptSample_of_room hroom hpend, Attempt.orFatal_done]
  · rw [State.respond_eq_answering]; rfl
  · rw [hslot]; exact s.slotRead_stored x y z
  · intro a ha
    rw [hslot] at ha
    have hread : ((s.stored x y z).respond .ok 0).mem.read? a = s.mem.read? a :=
      s.read?_slotWrite_of_outside (s.sampleOf x y z) ha
    exact ⟨hread, congrArg (Option.getD · (Config.unwrittenByte s.epoch a)) hread⟩

/-! ## The cursors over a step -/

/-- What a step other than `rst` can do to the cursors: leave them, push one sample into a buffer with room (R107),
or consume `k` unread samples (R112); a drain consumes them all (R113). -/
def State.CursorMove (s t : State) : Prop :=
  t.cfg = s.cfg ∧
  ((t.wc = s.wc ∧ t.rc = s.rc) ∨
   (s.occ.toNat < s.cfg.cap ∧ t.wc = s.wc + 1 ∧ t.rc = s.rc) ∨
   (∃ k ≤ s.occ.toNat, t.wc = s.wc ∧ t.rc = s.rc + BitVec.ofNat 32 k))

theorem State.CursorMove.of_still {s t : State} (hcfg : t.cfg = s.cfg) (hwc : t.wc = s.wc) (hrc : t.rc = s.rc) :
    s.CursorMove t := ⟨hcfg, .inl ⟨hwc, hrc⟩⟩

theorem State.CursorMove.of_push {s t : State} (hroom : s.occ.toNat < s.cfg.cap) (hcfg : t.cfg = s.cfg)
    (hwc : t.wc = s.wc + 1) (hrc : t.rc = s.rc) : s.CursorMove t := ⟨hcfg, .inr (.inl ⟨hroom, hwc, hrc⟩)⟩

theorem State.CursorMove.of_consume {s t : State} {k : Nat} (hk : k ≤ s.occ.toNat) (hcfg : t.cfg = s.cfg)
    (hwc : t.wc = s.wc) (hrc : t.rc = s.rc + BitVec.ofNat 32 k) : s.CursorMove t :=
  ⟨hcfg, .inr (.inr ⟨k, hk, hwc, hrc⟩)⟩

/-- A drain consumes every unread sample (R113). -/
theorem State.CursorMove.of_drain {s t : State} (hcfg : t.cfg = s.cfg) (hwc : t.wc = s.wc) (hrc : t.rc = s.wc) :
    s.CursorMove t := by
  refine .of_consume (Nat.le_refl s.occ.toNat) hcfg hwc ?_
  rw [hrc, BitVec.ofNat_toNat, BitVec.setWidth_eq, State.occ, BitVec.add_comm, BitVec.sub_add_cancel]

/-- The occupancy after one sample is pushed, far from the wrap of OCC (R105, R107). -/
theorem occ_after_push (wc rc : U32) (h : (wc - rc).toNat < 2 ^ 31) : (wc + 1 - rc).toNat = (wc - rc).toNat + 1 := by
  bv_omega

/-- The occupancy after `k` of its samples are consumed (R105, R112). -/
theorem occ_after_consume (wc rc : U32) {k : Nat} (hk : k ≤ (wc - rc).toNat) :
    (wc - (rc + BitVec.ofNat 32 k)).toNat = (wc - rc).toNat - k := by
  have hlt : k < 2 ^ 32 := Nat.lt_of_le_of_lt hk (wc - rc).isLt
  bv_omega

/-- No cursor move takes the occupancy above `CAP` (R109). -/
theorem State.CursorMove.occOk {s t : State} (hmove : s.CursorMove t) (hocc : s.OccOk) : t.OccOk := by
  obtain ⟨hcfg, ⟨hwc, hrc⟩ | ⟨hroom, hwc, hrc⟩ | ⟨k, hk, hwc, hrc⟩⟩ := hmove
  all_goals rw [State.OccOk, State.occ, hcfg, hwc, hrc]
  · exact hocc
  · rw [occ_after_push _ _ (Nat.lt_of_lt_of_le hroom (Config.cap_le s.cfg))]
    exact hroom
  · rw [occ_after_consume _ _ hk]
    exact Nat.le_trans (Nat.sub_le _ _) hocc

/-- An opcode's effect moves the cursors as it does where it is performed, and not at all while fatal (R169). -/
theorem State.CursorMove.unlessHalted {s t : State} (h : s.CursorMove t) : s.CursorMove (s.unlessHalted t) := by
  obtain ⟨-, he⟩ | ⟨-, he⟩ := s.unlessHalted_cases t
  · rw [he]; exact .of_still rfl rfl rfl
  · rw [he]; exact h

/-- A procedure that can raise moves the cursors as its done state does, and not at all if it raises (R168). -/
theorem State.CursorMove.orFatal {s : State} {a : Attempt} (h : ∀ t, a = .done t → s.CursorMove t) :
    s.CursorMove (a.orFatal s) := by
  cases a with
  | done t => exact h t rfl
  | fatal c => exact .of_still rfl rfl rfl

theorem State.CursorMove.orFatalInternal {s : State} {a : Attempt} (h : ∀ t, a = .done t → s.CursorMove t) :
    s.CursorMove (a.orFatalInternal s) := by
  cases a with
  | done t => exact h t rfl
  | fatal c => exact .of_still rfl rfl rfl

theorem State.cursorMove_of_finish {s t : State} {aborted : Bool} {i : Nat} (h : s.finish aborted i = .done t) :
    s.CursorMove t := by
  obtain ⟨hle, he⟩ | ⟨-, he⟩ := s.finish_cases aborted i <;> rw [he] at h <;> cases h
  exact .of_consume hle rfl rfl rfl

theorem State.cursorMove_of_afterAttempt {s t : State} (h : s.afterAttempt = .done t) : s.CursorMove t := by
  obtain ⟨-, he⟩ | ⟨-, -, he⟩ | ⟨-, -, he⟩ := s.afterAttempt_cases <;> rw [he] at h
  · exact (State.cursorMove_of_finish h :)
  · cases h; exact .of_still rfl rfl rfl
  · cases h; exact .of_still rfl rfl rfl

theorem State.cursorMove_of_acceptSample {s t : State} {x y z : U16} (h : s.acceptSample x y z = .done t) :
    s.CursorMove t := by
  obtain ⟨-, he⟩ | ⟨hroom, -, he⟩ | ⟨hroom, -, -, he⟩ | ⟨-, he⟩ | ⟨-, -, -, he⟩ := s.acceptSample_cases x y z <;>
    rw [he] at h <;> cases h
  · exact .of_still rfl rfl rfl
  · exact .of_push hroom rfl rfl rfl
  · exact .of_push hroom rfl rfl rfl

theorem State.cursorMove_of_tick {s t : State} (h : s.tick = .done t) : s.CursorMove t := by
  obtain ⟨-, he⟩ | ⟨-, he⟩ := s.tick_cases <;> rw [he] at h <;> cases h
  exact .of_still rfl rfl rfl

/-- An event's effect where its unit awaits it, UNEXPECTED where it does not (R166). -/
theorem State.CursorMove.ite_unexpected {s t : State} {p : Prop} [Decidable p] (h : s.CursorMove t) :
    s.CursorMove (if p then t else s.unexpectedEvent) := by
  split
  · exact h
  · exact .of_still rfl rfl rfl

theorem State.cursorMove_setMode (s : State) (mv : Byte) (p : Bool) : s.CursorMove (s.setMode mv p) := by
  unfold State.setMode
  split
  · exact .of_still rfl rfl rfl
  · exact .of_still rfl rfl rfl
  · split <;> exact .of_still rfl rfl rfl

theorem State.cursorMove_setPower (s : State) (b : Bool) : s.CursorMove (s.setPower b) := by
  unfold State.setPower
  split <;> exact .of_still rfl rfl rfl

theorem State.cursorMove_subscribe (s : State) (sel en : Bool) : s.CursorMove (s.subscribe sel en) := by
  cases sel <;> exact .of_still rfl rfl rfl

/-- Of the request words, SENSOR_OK can push and the transport's results can consume; no other moves a cursor. -/
theorem cursorMove_of_exec {i : Instr} {s t : State} (h : exec i s = .next t) : s.CursorMove t := by
  cases i with
  | getMode => cases h; exact .of_still rfl rfl rfl
  | setMode mv p => cases h; exact (s.cursorMove_setMode mv p).unlessHalted
  | setPower b => cases h; exact (s.cursorMove_setPower b).unlessHalted
  | readReg idx =>
    simp only [exec, execReadReg] at h
    split at h <;> cases h <;> exact .of_still rfl rfl rfl
  | linkConnect => cases h; exact .unlessHalted (.of_still rfl rfl rfl)
  | linkDisconnect => cases h; exact .unlessHalted (.of_still rfl rfl rfl)
  | linkSubscribe sel en => cases h; exact .unlessHalted (s.cursorMove_subscribe sel en)
  | linkUnit n => cases h; exact .unlessHalted (.of_still rfl rfl rfl)
  | sensorOk x y z =>
    cases h; exact .unlessHalted (.ite_unexpected (.orFatal fun _ => State.cursorMove_of_acceptSample))
  | sensorErr => cases h; exact .unlessHalted (.ite_unexpected (.of_still rfl rfl rfl))
  | txOk => cases h; exact .unlessHalted (.ite_unexpected (.orFatal fun _ => State.cursorMove_of_afterAttempt))
  | txFail => cases h; exact .unlessHalted (.ite_unexpected (.orFatal fun _ => State.cursorMove_of_afterAttempt))
  | tick => cases h; exact .unlessHalted (.orFatal fun _ => State.cursorMove_of_tick)
  | paceDone => cases h; exact .unlessHalted (.ite_unexpected (.of_still rfl rfl rfl))

/-- Of the internal steps, BURST_WAKE can drain and BURST_PACKET can consume; a fetch moves no cursor (R98). -/
theorem State.cursorMove_internalEffect (s : State) (u : InternalStep) : s.CursorMove (s.internalEffect u) := by
  cases u with
  | producerFetch => exact .of_still rfl rfl rfl
  | burstWake =>
    obtain ⟨-, he⟩ | ⟨-, -, he⟩ | ⟨-, -, -, he⟩ | ⟨-, -, -, he⟩ := s.burstWake_cases <;>
      rw [State.internalEffect, he]
    · exact .of_drain rfl rfl rfl
    · exact .of_drain rfl rfl rfl
    · exact .of_still rfl rfl rfl
    · exact .of_still rfl rfl rfl
  | burstPacket =>
    obtain ⟨-, he⟩ | ⟨-, he⟩ := s.burstPacket_cases <;> rw [State.internalEffect, he]
    · exact .of_still rfl rfl rfl
    · exact .orFatalInternal fun _ => State.cursorMove_of_finish

/-- A step is `rst`, or it moves the cursors in one of the three ways. -/
theorem step_cursorMove {s t : State} (h : step s = .next t) :
    s.CursorMove t ∨ ∃ r, t = (s.beginStep s.timeNow r).assertReset := by
  obtain ⟨-, rfl⟩ | ⟨w, n, r, -, hreq⟩ | ⟨u, n, r, -, hint⟩ | ⟨r, -, rfl⟩ := step_cases h
  · exact .inl (.of_still rfl rfl rfl)
  · obtain ⟨i, -, hexec⟩ | ⟨e, -, rfl⟩ := handleRequest_cases hreq
    · exact .inl (cursorMove_of_exec hexec :)
    · exact .inl (.of_still rfl rfl rfl)
  · obtain ⟨-, rfl⟩ | ⟨-, rfl⟩ := runInternal_cases hint
    · exact .inl (State.cursorMove_internalEffect (s.beginStep n r) u)
    · exact .inl (.of_still rfl rfl rfl)
  · exact .inr ⟨r, rfl⟩

/-- After reset the buffer is empty (R64). -/
theorem State.resetOf_occOk (c : Config) : (State.resetOf c).OccOk := by
  have hempty : (State.resetOf c).occ = 0 := BitVec.sub_self 0
  rw [State.OccOk, hempty]
  exact Nat.zero_le _

/-- Settles O33: the bound holds at reset, and neither a cursor move nor `rst` breaks it. -/
theorem everyStepKeepsTheOccupancyBound : Obligations.EveryStepKeepsTheOccupancyBound := by
  refine ⟨State.resetOf_occOk, fun s t hocc hstep => ?_⟩
  obtain hmove | ⟨r, rfl⟩ := step_cursorMove hstep
  · exact hmove.occOk hocc
  · exact State.resetOf_occOk s.cfg

end Sys2Proof.Machine
end

section
/-! SUPPORT. The answers of a request that may meet or raise a fatal cause, in the statements' terms (R97, R168, R169),
and TICK (R115). -/

namespace Sys2Proof.Machine

/-! ## The fatal answers -/

/-- A request is answered with the stored cause while fatal, and performed otherwise (R97, R169). -/
theorem State.unlessHalted_eq_ite (s t : State) : s.unlessHalted t = if s.fatal then Spec.halted s else t := by
  have hcause : (s.faultCause.setWidth 32).toNat = s.faultCause.toNat := BitVec.toNat_setWidth_of_le (by decide)
  rw [State.unlessHalted, State.respond_eq_answering, hcause]
  rfl

/-- A cause raised by a request leaves the fault and the answer `HALTED, cause` on the state before the step (R168). -/
theorem Attempt.orFatal_fatal_eq_raised (c : FatalCause) (s : State) :
    (Attempt.fatal c).orFatal s = Spec.raised s c.code.toNat := by
  have hdata : (c.code.setWidth 32).toNat = c.code.toNat := BitVec.toNat_setWidth_of_le (by decide)
  rw [Attempt.orFatal_fatal, State.respond_eq_answering, hdata, Spec.raised, BitVec.ofNat_toNat, BitVec.setWidth_eq]
  rfl

/-! ## TICK -/

/-- The relative timestamp is the difference of the two times modulo `2^16` (R18, R115). -/
theorem sub_eq_ofNat_two_pow_add_sub (a b : U16) : a - b = BitVec.ofNat 16 (2 ^ 16 + a.toNat - b.toNat) := by
  bv_omega

/-- Settles O8, by the two cases of TICK: the wake count has room, or it is full and TICK_OVERFLOW is raised. -/
theorem tickCapturesAndCounts : Obligations.TickCapturesAndCounts := by
  intro s
  have hexec : exec .tick s = .next (s.unlessHalted (s.tick.orFatal s)) := rfl
  rw [hexec, State.unlessHalted_eq_ite]
  obtain ⟨hroom, he⟩ | ⟨hfull, he⟩ := s.tick_cases
  · have hcount : s.tickPend.toNat ≠ 0xFFFF := fun h => hroom (BitVec.eq_of_toNat_eq h)
    rw [he, Attempt.orFatal_done, State.respond_eq_answering, if_neg hcount, sub_eq_ofNat_two_pow_add_sub,
      BitVec.add_def]
    rfl
  · have hcount : s.tickPend.toNat = 0xFFFF := congrArg BitVec.toNat hfull
    rw [he, Attempt.orFatal_fatal_eq_raised, if_pos hcount]
    rfl

end Sys2Proof.Machine
end

section
/-! SUPPORT. The producer's failed read and its fetch (R119, R123), and the enabling of a fetch (R98). -/

namespace Sys2Proof.Machine

/-- The model's answer to an event its unit is not waiting for is the statements' (R166). -/
theorem State.unexpectedEvent_eq_unexpected (s : State) : s.unexpectedEvent = Spec.unexpected s :=
  State.respond_eq_answering { s with protoErr := true } .unexpected 0

/-- Settles O9: while fatal the request is refused; a read that is awaited is counted, and any other is unexpected. -/
theorem sensorErrCountsAndSkips : Obligations.SensorErrCountsAndSkips := by
  intro s
  have hexec : exec .sensorErr s = .next (s.unlessHalted (if s.pstate = .wait then
      State.respond { s with readFailCnt := s.readFailCnt + 1, pstate := .idle } .ok 0
    else s.unexpectedEvent)) := rfl
  rw [hexec, State.unlessHalted_eq_ite, State.respond_eq_answering, State.unexpectedEvent_eq_unexpected]
  rfl

/-- PRODUCER_FETCH is enabled exactly where the producer is idle with a wake pending, and the block not fatal (R98). -/
theorem State.fetchEnabled_iff (s : State) :
    s.fetchEnabled = true ↔ s.fatal = false ∧ s.pstate = .idle ∧ s.tickPend ≠ 0 := by
  simp [State.fetchEnabled, and_assoc]

/-- An internal step that is enabled takes its effect (R98). -/
theorem runInternal_of_enabled {u : InternalStep} {s : State} (h : s.enabled u = true) :
    runInternal u s = .next (s.internalEffect u) := by
  rw [runInternal, if_pos h]

/-- Settles O20: the fetch is enabled, since beginning the step changes none of the three conditions, so it is taken. -/
theorem producerFetchTakesOneWake : Obligations.ProducerFetchTakesOneWake := by
  intro s now rest hsched hrun hidle hwake
  have hpend : s.tickPend ≠ 0 := fun h => hwake.ne' (congrArg BitVec.toNat h)
  have henabled : (s.beginStep now rest).enabled .producerFetch = true :=
    (s.beginStep now rest).fetchEnabled_iff.2 ⟨hrun, hidle, hpend⟩
  rw [step_internal hsched, runInternal_of_enabled henabled]
  rfl

end Sys2Proof.Machine
end

section
/-! SUPPORT. What a request word that is performed can do (R97, R149 to R158), and what a step other than `rst` can do
(R20, R97, R98): said once, for every proof about a field's writers. -/

namespace Sys2Proof.Machine

/-- What an instruction does where its effect is performed: an event that is not awaited is unexpected (R166),
and every other effect stands with its own condition. -/
inductive State.Effect (s : State) : Instr → State → Prop
  | unexpected {i : Instr} (hearly : s.mayArrive i = false) : s.Effect i s.unexpectedEvent
  | setBurst (p : Bool) : s.Effect (.setMode 0 p) (State.respond { s with mode := .burst } .ok 0)
  | setContinuous : s.Effect (.setMode 1 true) (State.respond { s with mode := .continuous } .ok 1)
  | setPower (b : Bool) (hkeep : b = true ∨ s.mode = .burst) :
      s.Effect (.setPower b) (State.respond { s with pwr := b } .ok s.mode.word)
  | downgrade (hmode : s.mode = .continuous) :
      s.Effect (.setPower false) (State.respond { s with pwr := false, mode := .burst } .ok 0)
  | linkConnect : s.Effect .linkConnect ((s.freshLink true).respond .ok 0)
  | linkDisconnect : s.Effect .linkDisconnect ((s.freshLink false).respond .ok 0)
  | subscribeData (en : Bool) : s.Effect (.linkSubscribe false en) (State.respond { s with subData := en } .ok 0)
  | subscribeHeartbeat (en : Bool) : s.Effect (.linkSubscribe true en) (State.respond { s with subHb := en } .ok 0)
  | linkUnit (n : U16) : s.Effect (.linkUnit n) (State.respond { s with unit := n } .ok 0)
  | sensorOk (x y z : U16) (hwait : s.pstate = .wait) :
      s.Effect (.sensorOk x y z) ((s.acceptSample x y z).orFatal s)
  | sensorErr (hwait : s.pstate = .wait) :
      s.Effect .sensorErr (State.respond { s with readFailCnt := s.readFailCnt + 1, pstate := .idle } .ok 0)
  | txOk (htxw : s.bstate = .txw) :
      s.Effect .txOk ((State.afterAttempt { s with txOkCnt := s.txOkCnt + 1 }).orFatal s)
  | txFail (htxw : s.bstate = .txw) :
      s.Effect .txFail ((State.afterAttempt { s with txFailCnt := s.txFailCnt + 1 }).orFatal s)
  | tick : s.Effect .tick (s.tick.orFatal s)
  | paceDone (hpace : s.bstate = .pace) : s.Effect .paceDone (State.respond { s with bstate := .pkt } .ok 0)

/-- What a request word leaves: the answer alone (a read, a mode not granted, a word refused while fatal),
or the instruction's effect where the block is not fatal. -/
def State.Requested (s : State) (i : Instr) (t : State) : Prop :=
  (∃ c d, t = s.respond c d) ∨ (s.fatal = false ∧ s.Effect i t)

/-- A request that is refused while fatal leaves what its opcode's rule leaves where it runs (R97, R169). -/
theorem State.Requested.unlessHalted {s t : State} {i : Instr} (h : s.fatal = false → s.Requested i t) :
    s.Requested i (s.unlessHalted t) := by
  obtain ⟨-, he⟩ | ⟨hrun, he⟩ := s.unlessHalted_cases t <;> rw [he]
  · exact .inl ⟨_, _, rfl⟩
  · exact h hrun

/-- An event is performed where its unit awaits it, and unexpected where it does not (R166). -/
theorem State.Requested.ite_unexpected {s t : State} {i : Instr} {p : Prop} [Decidable p] (hrun : s.fatal = false)
    (hearly : ¬p → s.mayArrive i = false) (h : p → s.Effect i t) :
    s.Requested i (if p then t else s.unexpectedEvent) := by
  split
  · next hp => exact .inr ⟨hrun, h hp⟩
  · next hp => exact .inr ⟨hrun, .unexpected (hearly hp)⟩

/-- The values of a mode byte: 0 is BURST, 1 is CONTINUOUS, and no other names a mode (R150). -/
theorem modeOfByte_cases (mv : Byte) :
    (mv = 0 ∧ modeOfByte mv = some .burst) ∨ (mv = 1 ∧ modeOfByte mv = some .continuous) ∨
    (modeOfByte mv = none) := by
  by_cases h0 : mv = 0
  · exact .inl ⟨h0, if_pos h0⟩
  · by_cases h1 : mv = 1
    · exact .inr (.inl ⟨h1, (if_neg h0).trans (if_pos h1)⟩)
    · exact .inr (.inr ((if_neg h0).trans (if_neg h1)))

theorem State.requested_setMode (s : State) (hrun : s.fatal = false) (mv : Byte) (p : Bool) :
    s.Requested (.setMode mv p) (s.setMode mv p) := by
  unfold State.setMode
  obtain ⟨rfl, he⟩ | ⟨rfl, he⟩ | he := modeOfByte_cases mv <;> rw [he]
  · exact .inr ⟨hrun, .setBurst p⟩
  · cases p
    · exact .inl ⟨_, _, rfl⟩
    · exact .inr ⟨hrun, .setContinuous⟩
  · exact .inl ⟨_, _, rfl⟩

theorem State.effect_setPower (s : State) (b : Bool) : s.Effect (.setPower b) (s.setPower b) := by
  unfold State.setPower
  split
  · next hdown =>
    obtain ⟨rfl, hmode⟩ : b = false ∧ s.mode = .continuous := by simpa using hdown
    exact .downgrade hmode
  · next hkeep =>
    refine .setPower b ?_
    cases b
    · cases hmode : s.mode
      · exact .inr rfl
      · simp [hmode] at hkeep
    · exact .inl rfl

/-- Every request word leaves the answer alone or the instruction's effect (R97). -/
theorem requested_of_exec {i : Instr} {s t : State} (h : exec i s = .next t) : s.Requested i t := by
  cases i with
  | getMode => cases h; exact .inl ⟨_, _, rfl⟩
  | readReg idx =>
    simp only [exec, execReadReg] at h
    split at h <;> cases h <;> exact .inl ⟨_, _, rfl⟩
  | setMode mv p => cases h; exact .unlessHalted fun hrun => s.requested_setMode hrun mv p
  | setPower b => cases h; exact .unlessHalted fun hrun => .inr ⟨hrun, s.effect_setPower b⟩
  | linkConnect => cases h; exact .unlessHalted fun hrun => .inr ⟨hrun, .linkConnect⟩
  | linkDisconnect => cases h; exact .unlessHalted fun hrun => .inr ⟨hrun, .linkDisconnect⟩
  | linkSubscribe sel en =>
    cases h
    refine .unlessHalted fun hrun => .inr ⟨hrun, ?_⟩
    cases sel
    · exact .subscribeData en
    · exact .subscribeHeartbeat en
  | linkUnit n => cases h; exact .unlessHalted fun hrun => .inr ⟨hrun, .linkUnit n⟩
  | sensorOk x y z => cases h; exact .unlessHalted fun hrun => .ite_unexpected hrun beq_false_of_ne (.sensorOk x y z)
  | sensorErr => cases h; exact .unlessHalted fun hrun => .ite_unexpected hrun beq_false_of_ne .sensorErr
  | txOk => cases h; exact .unlessHalted fun hrun => .ite_unexpected hrun beq_false_of_ne .txOk
  | txFail => cases h; exact .unlessHalted fun hrun => .ite_unexpected hrun beq_false_of_ne .txFail
  | tick => cases h; exact .unlessHalted fun hrun => .inr ⟨hrun, .tick⟩
  | paceDone => cases h; exact .unlessHalted fun hrun => .ite_unexpected hrun beq_false_of_ne .paceDone

theorem State.nextInstr_of_schedule {s : State} {w : Word64} {n : U16} {r : List Stimulus} {i : Instr}
    (hsched : s.schedule = .request w n :: r) (hdecode : decode w = .instr i) : s.nextInstr = some i := by
  simp [State.nextInstr, State.nextWord, hsched, hdecode, Decoded.toOption]

theorem State.nextInternal_of_schedule {s : State} {u : InternalStep} {n : U16} {r : List Stimulus}
    (hsched : s.schedule = .internal u n :: r) (henabled : s.enabled u = true) : s.nextInternal = some u := by
  simp [State.nextInternal, hsched, henabled]

/-- Beginning a step enables no internal step and disables none (R98). -/
@[simp] theorem State.beginStep_enabled (s : State) (now : U16) (rest : List Stimulus) (u : InternalStep) :
    (s.beginStep now rest).enabled u = s.enabled u := by
  cases u <;> rfl

/-- A step other than `rst` begins, and then answers at most, performs the next request, or takes the next internal
step, which is enabled (R20, R97, R98). -/
theorem step_cases_of_noReset {s t : State} (hnoReset : s.noReset) (h : step s = .next t) :
    ∃ now rest,
      (t = s.beginStep now rest ∨ ∃ c d, t = (s.beginStep now rest).respond c d) ∨
      (∃ i, s.nextInstr = some i ∧ s.fatal = false ∧ (s.beginStep now rest).Effect i t) ∨
      (∃ u, s.nextInternal = some u ∧ s.enabled u = true ∧ t = (s.beginStep now rest).internalEffect u) := by
  obtain ⟨-, ht⟩ | ⟨w, n, r, hsched, hreq⟩ | ⟨u, n, r, hsched, hint⟩ | ⟨r, hsched, -⟩ := step_cases h
  · exact ⟨_, _, .inl (.inl ht)⟩
  · refine ⟨n, r, ?_⟩
    obtain ⟨i, hdecode, hexec⟩ | ⟨e, -, ht⟩ := handleRequest_cases hreq
    · obtain hanswer | ⟨hrun, heffect⟩ := requested_of_exec hexec
      · exact .inl (.inr hanswer)
      · exact .inr (.inl ⟨i, State.nextInstr_of_schedule hsched hdecode, hrun, heffect⟩)
    · exact .inl (.inr ⟨_, _, ht⟩)
  · refine ⟨n, r, ?_⟩
    obtain ⟨henabled, ht⟩ | ⟨-, ht⟩ := runInternal_cases hint
    · rw [State.beginStep_enabled] at henabled
      exact .inr (.inr ⟨u, State.nextInternal_of_schedule hsched henabled, henabled, ht⟩)
    · exact .inl (.inl ht)
  · exact absurd (congrArg List.head? hsched) hnoReset

end Sys2Proof.Machine
end

section
/-! SUPPORT. The burst controller: its two gates and the enabling of its steps (R98, R128, R129), and how a step can
move BSTATE (R126). -/

namespace Sys2Proof.Machine

/-- Settles O15: the delay that is awaited is over, whatever MODE is, and any other PACE_DONE is unexpected. -/
theorem paceDoneResumesTheBurst : Obligations.PaceDoneResumesTheBurst := by
  intro s
  have hexec : exec .paceDone s = .next (s.unlessHalted (if s.bstate = .pace then
      State.respond { s with bstate := .pkt } .ok 0
    else s.unexpectedEvent)) := rfl
  rw [hexec, State.unlessHalted_eq_ite, State.respond_eq_answering, State.unexpectedEvent_eq_unexpected]
  rfl

/-! ## Gates and enabling -/

theorem State.linkReady_iff (s : State) : s.linkReady = true ↔ s.subData = true ∧ s.conn = true := by
  rw [State.linkReady, Bool.and_eq_true_iff]

theorem State.linkReady_eq_false_iff (s : State) : s.linkReady = false ↔ s.subData = false ∨ s.conn = false := by
  rw [State.linkReady, Bool.and_eq_false_iff]

theorem State.not_or_of_linkReady {s : State} (h : s.linkReady = true) : ¬(s.subData = false ∨ s.conn = false) :=
  fun hdown => Bool.eq_false_iff.1 (s.linkReady_eq_false_iff.2 hdown) h

theorem State.unitReady_iff (s : State) :
    s.unitReady = true ↔ (1 + 10 * s.cfg.spp + 2) + s.cfg.ovh ≤ s.unit.toNat :=
  decide_eq_true_iff

theorem State.unitReady_eq_false_iff (s : State) :
    s.unitReady = false ↔ s.unit.toNat < (1 + 10 * s.cfg.spp + 2) + s.cfg.ovh :=
  decide_eq_false_iff_not.trans Nat.not_le

/-- BURST_WAKE is enabled exactly where the controller is idle with a wake posted, and the block not fatal (R98). -/
theorem State.wakeEnabled_iff (s : State) :
    s.wakeEnabled = true ↔ s.fatal = false ∧ s.bstate = .idle ∧ s.burstPend ≠ 0 := by
  simp [State.wakeEnabled, and_assoc]

/-- BURST_PACKET is enabled exactly where a packet is to be built, and the block not fatal (R98). -/
theorem State.packetEnabled_iff (s : State) : s.packetEnabled = true ↔ s.fatal = false ∧ s.bstate = .pkt := by
  simp [State.packetEnabled]

/-- Settles O21: the wake is enabled, since beginning the step changes none of the three conditions, and its four
branches are those of R127 in their order. -/
theorem burstWakeGatesTheBurst : Obligations.BurstWakeGatesTheBurst := by
  intro s now rest hsched hrun hidle hwake
  have hpend : s.burstPend ≠ 0 := fun h => hwake.ne' (congrArg BitVec.toNat h)
  have henabled : (s.beginStep now rest).enabled .burstWake = true :=
    (s.beginStep now rest).wakeEnabled_iff.2 ⟨hrun, hidle, hpend⟩
  rw [step_internal hsched, runInternal_of_enabled henabled]
  refine congrArg Host.Outcome.next ?_
  obtain ⟨hlink, he⟩ | ⟨hlink, hunit, he⟩ | ⟨hlink, hunit, hnone, he⟩ | ⟨hlink, hunit, hsome, he⟩ :=
    (s.beginStep now rest).burstWake_cases <;> rw [State.internalEffect, he]
  · exact (if_pos ((State.linkReady_eq_false_iff _).1 hlink)).symm
  · exact ((if_neg (State.not_or_of_linkReady hlink)).trans (if_pos ((State.unitReady_eq_false_iff _).1 hunit))).symm
  · have hbig := Nat.not_lt.2 ((State.unitReady_iff _).1 hunit)
    exact ((if_neg (State.not_or_of_linkReady hlink)).trans ((if_neg hbig).trans (if_pos hnone))).symm
  · have hbig := Nat.not_lt.2 ((State.unitReady_iff _).1 hunit)
    exact ((if_neg (State.not_or_of_linkReady hlink)).trans ((if_neg hbig).trans (if_neg hsome))).symm

/-! ## The transitions of BSTATE -/

/-- BSTATE, BURST_ID, WSTART and ABORT_CNT are as before. -/
def State.BurstStill (s t : State) : Prop :=
  t.bstate = s.bstate ∧ t.burstId = s.burstId ∧ t.wstart = s.wstart ∧ t.abortCnt = s.abortCnt

/-- The effects of `Finish` for the packets attempted, which `PKT_I` counts afterwards; a burst that ends in B_PKT is
aborted (R131, R136). -/
def State.BurstFinished (s t : State) : Prop :=
  t.rc = s.rc + BitVec.ofNat 32 (t.pktI.toNat * s.cfg.spp) ∧ t.wstart = t.timeNow ∧ t.burstId = s.burstId + 1 ∧
  t.abortCnt = if s.bstate = .pkt then s.abortCnt + 1 else s.abortCnt

/-- How a step takes BSTATE from `s` to `t`, where the step is the request `req` or the internal step `int`:
not at all, or by a row of the transition table, a constructor per row (R126). -/
inductive BurstMove (req : Option Instr) (int : Option InternalStep) (s t : State) : Prop
  | still (hstill : s.BurstStill t)
  | start (hint : int = some .burstWake) (hidle : s.bstate = .idle) (hlink : s.subData = true ∧ s.conn = true)
      (hunit : (1 + 10 * s.cfg.spp + 2) + s.cfg.ovh ≤ s.unit.toNat) (hroom : s.cfg.spp ≤ s.occ.toNat)
      (hstart : State.BurstStill { s with bstate := .pkt } t)
  | send (hint : int = some .burstPacket) (hpkt : s.bstate = .pkt) (hconn : s.conn = true) (htxw : t.bstate = .txw)
  | abort (hint : int = some .burstPacket) (hpkt : s.bstate = .pkt) (hconn : s.conn = false)
      (hidle : t.bstate = .idle) (hfinish : s.BurstFinished t)
  | finish (hreq : req = some .txOk ∨ req = some .txFail) (htxw : s.bstate = .txw) (hlast : s.pktI + 1 = s.pktN)
      (hidle : t.bstate = .idle) (hfinish : s.BurstFinished t)
  | pace (hreq : req = some .txOk ∨ req = some .txFail) (htxw : s.bstate = .txw) (hmore : s.pktI + 1 ≠ s.pktN)
      (hmode : s.mode = .burst) (hpace : t.bstate = .pace)
  | goOn (hreq : req = some .txOk ∨ req = some .txFail) (htxw : s.bstate = .txw) (hmore : s.pktI + 1 ≠ s.pktN)
      (hmode : s.mode = .continuous) (hpkt : t.bstate = .pkt)
  | resume (hreq : req = some .paceDone) (hpace : s.bstate = .pace) (hpkt : t.bstate = .pkt)

/-- A counted attempt finishes the burst with the last packet, and otherwise paces or goes on as MODE says (R134). -/
theorem burstMove_afterAttempt {req : Option Instr} {int : Option InternalStep}
    (hreq : req = some .txOk ∨ req = some .txFail) {s : State} (htxw : s.bstate = .txw) (ok fail : U32) :
    BurstMove req int s ((State.afterAttempt { s with txOkCnt := ok, txFailCnt := fail }).orFatal s) := by
  obtain ⟨hlast, he⟩ | ⟨hmore, hmode, he⟩ | ⟨hmore, hmode, he⟩ :=
    State.afterAttempt_cases { s with txOkCnt := ok, txFailCnt := fail } <;> rw [he]
  · obtain ⟨-, hf⟩ | ⟨-, hf⟩ := State.finish_cases
      { s with txOkCnt := ok, txFailCnt := fail, pktI := s.pktI + 1 } false (s.pktI + 1).toNat <;> rw [hf]
    · have hnotAbort : s.bstate ≠ .pkt := htxw ▸ BState.noConfusion
      exact .finish hreq htxw hlast rfl ⟨rfl, rfl, rfl, (if_neg hnotAbort).symm⟩
    · exact .still ⟨rfl, rfl, rfl, rfl⟩
  · exact .pace hreq htxw hmore hmode rfl
  · exact .goOn hreq htxw hmore hmode rfl

/-- Of the request words, only the transport's results and PACE_DONE move BSTATE. -/
theorem State.Effect.burstMove {i : Instr} {int : Option InternalStep} {s t : State} (h : s.Effect i t) :
    BurstMove (some i) int s t := by
  cases h with
  | txOk htxw => exact burstMove_afterAttempt (.inl rfl) htxw (s.txOkCnt + 1) s.txFailCnt
  | txFail htxw => exact burstMove_afterAttempt (.inr rfl) htxw s.txOkCnt (s.txFailCnt + 1)
  | paceDone hpace => exact .resume rfl hpace rfl
  | sensorOk x y z hwait =>
    obtain ⟨-, he⟩ | ⟨-, -, he⟩ | ⟨-, -, -, he⟩ | ⟨-, he⟩ | ⟨-, -, -, he⟩ := s.acceptSample_cases x y z <;>
      rw [he] <;> exact .still ⟨rfl, rfl, rfl, rfl⟩
  | tick => obtain ⟨-, he⟩ | ⟨-, he⟩ := s.tick_cases <;> rw [he] <;> exact .still ⟨rfl, rfl, rfl, rfl⟩
  | _ => exact .still ⟨rfl, rfl, rfl, rfl⟩

/-- The burst controller's internal steps move BSTATE as R127 and R131 say; a fetch does not. -/
theorem State.burstMove_internalEffect {req : Option Instr} {s : State} {u : InternalStep}
    (henabled : s.enabled u = true) : BurstMove req (some u) s (s.internalEffect u) := by
  cases u with
  | producerFetch => exact .still ⟨rfl, rfl, rfl, rfl⟩
  | burstWake =>
    obtain ⟨-, hidle, -⟩ := s.wakeEnabled_iff.1 henabled
    obtain ⟨-, he⟩ | ⟨-, -, he⟩ | ⟨-, -, -, he⟩ | ⟨hlink, hunit, hsome, he⟩ := s.burstWake_cases <;>
      rw [State.internalEffect, he]
    · exact .still ⟨rfl, rfl, rfl, rfl⟩
    · exact .still ⟨rfl, rfl, rfl, rfl⟩
    · exact .still ⟨rfl, rfl, rfl, rfl⟩
    · have hroom : s.cfg.spp ≤ s.occ.toNat :=
        (Nat.le_mul_of_pos_left _ (Nat.pos_of_ne_zero hsome)).trans s.packetCount_le.2.2
      exact .start rfl hidle (s.linkReady_iff.1 hlink) (s.unitReady_iff.1 hunit) hroom ⟨rfl, rfl, rfl, rfl⟩
  | burstPacket =>
    obtain ⟨-, hpkt⟩ := s.packetEnabled_iff.1 henabled
    obtain ⟨hconn, he⟩ | ⟨hconn, he⟩ := s.burstPacket_cases <;> rw [State.internalEffect, he]
    · exact .send rfl hpkt hconn rfl
    · obtain ⟨-, hf⟩ | ⟨-, hf⟩ := s.finish_cases true s.pktI.toNat <;> rw [hf]
      · exact .abort rfl hpkt hconn rfl ⟨rfl, rfl, rfl, (if_pos hpkt).symm⟩
      · exact .still ⟨rfl, rfl, rfl, rfl⟩

/-- Every step other than `rst` is a row of the table, from the state whose step has begun. -/
theorem step_burstMove {s t : State} (hnoReset : s.noReset) (h : step s = .next t) :
    ∃ now rest, BurstMove s.nextInstr s.nextInternal (s.beginStep now rest) t := by
  obtain ⟨now, rest, (rfl | ⟨c, d, rfl⟩) | ⟨i, hnext, -, heffect⟩ | ⟨u, hnext, henabled, rfl⟩⟩ :=
    step_cases_of_noReset hnoReset h <;> refine ⟨now, rest, ?_⟩
  · exact .still ⟨rfl, rfl, rfl, rfl⟩
  · exact .still ⟨rfl, rfl, rfl, rfl⟩
  · rw [hnext]; exact heffect.burstMove
  · rw [hnext]; exact State.burstMove_internalEffect (henabled ▸ s.beginStep_enabled now rest u)

/-- Settles O47: each row of the table gives its own line of the statement, and only a row that ends a burst enters
B_IDLE from another state. -/
theorem burstStateFollowsTheTransitionTable : Obligations.BurstStateFollowsTheTransitionTable := by
  intro s t hnoReset hstep
  obtain ⟨now, rest, hmove⟩ := step_burstMove hnoReset hstep
  cases hmove with
  | still hstill =>
    obtain ⟨hb, hkept⟩ := hstill
    exact ⟨fun hchange => absurd hb hchange, fun hbusy hidle => absurd (hb.symm.trans hidle) hbusy, fun _ => hkept⟩
  | start hint hidle hlink hunit hroom hstart =>
    obtain ⟨hpkt, hkept⟩ := hstart
    exact ⟨fun _ => .inl ⟨hidle, hpkt, hint, hlink.1, hlink.2, hunit, hroom⟩, fun hbusy => absurd hidle hbusy,
      fun _ => hkept⟩
  | abort hint hpkt hconn hidle hfinish =>
    exact ⟨fun _ => .inr (.inl ⟨hpkt, hidle, hint, hconn⟩), fun _ _ => hfinish, fun h => absurd h (hpkt.trans_ne nofun)⟩
  | send hint hpkt hconn htxw =>
    exact ⟨fun _ => .inr (.inr (.inl ⟨hpkt, htxw, hint, hconn⟩)), fun _ h => absurd h (htxw.trans_ne nofun),
      fun h => absurd h (hpkt.trans_ne nofun)⟩
  | finish hreq htxw hlast hidle hfinish =>
    exact ⟨fun _ => .inr (.inr (.inr (.inl ⟨htxw, hidle, hreq, hlast⟩))), fun _ _ => hfinish,
      fun h => absurd h (htxw.trans_ne nofun)⟩
  | pace hreq htxw hmore hmode hpace =>
    exact ⟨fun _ => .inr (.inr (.inr (.inr (.inl ⟨htxw, hpace, hreq, hmore, hmode⟩)))),
      fun _ h => absurd h (hpace.trans_ne nofun), fun h => absurd h (htxw.trans_ne nofun)⟩
  | goOn hreq htxw hmore hmode hpkt =>
    exact ⟨fun _ => .inr (.inr (.inr (.inr (.inr (.inl ⟨htxw, hpkt, hreq, hmore, hmode⟩))))),
      fun _ h => absurd h (hpkt.trans_ne nofun), fun h => absurd h (htxw.trans_ne nofun)⟩
  | resume hreq hpace hpkt =>
    exact ⟨fun _ => .inr (.inr (.inr (.inr (.inr (.inr ⟨hpace, hpkt, hreq⟩))))),
      fun _ h => absurd h (hpkt.trans_ne nofun), fun h => absurd h (hpace.trans_ne nofun)⟩

end Sys2Proof.Machine
end

section
/-! SUPPORT. Where each byte of a packet stands: in a field, in the records of a slice, in the frame (R141 to R145). -/

namespace Sys2Proof.Machine

/-! ## The two bytes of a field -/

theorem loByte_eq_ofNat (v : U16) : loByte v = BitVec.ofNat 8 v.toNat := rfl

theorem hiByte_eq_ofNat (v : U16) : hiByte v = BitVec.ofNat 8 (v.toNat / 256) :=
  congrArg (BitVec.ofNat 8) (Nat.shiftRight_eq_div_pow v.toNat 8)

/-! ## Records one after the other -/

@[simp] theorem Sample.serialise_length (r : Sample) : r.serialise.length = 10 := r.bytes_length

theorem packetBody_length (id : Byte) (recs : List Sample) : (packetBody id recs).length = 1 + 10 * recs.length := by
  simp [packetBody, List.length_flatMap]; omega

/-- Byte `j` of record `k` stands at offset `10 * k + j` of the records' image. -/
theorem getElem?_flatMap_serialise {recs : List Sample} {k j : Nat} {r : Sample} {b : Byte}
    (hrec : recs[k]? = some r) (hbyte : r.serialise[j]? = some b) :
    (recs.flatMap Sample.serialise)[10 * k + j]? = some b := by
  induction recs generalizing k with
  | nil => simp at hrec
  | cons q recs ih =>
    rw [List.flatMap_cons]
    cases k with
    | zero =>
      obtain rfl : q = r := by simpa using hrec
      obtain ⟨hj, -⟩ := List.getElem?_eq_some_iff.1 hbyte
      rw [Nat.mul_zero, Nat.zero_add, List.getElem?_append_left hj, hbyte]
    | succ k =>
      have hoff : 10 * (k + 1) + j - q.serialise.length = 10 * k + j := by rw [Sample.serialise_length]; omega
      rw [List.getElem?_append_right (by rw [Sample.serialise_length]; omega), hoff]
      exact ih (by simpa using hrec)

/-- In the body the burst id stands before the records (R141, R145). -/
theorem getElem?_packetBody {recs : List Sample} {k j : Nat} {r : Sample} {b : Byte} (id : Byte)
    (hrec : recs[k]? = some r) (hbyte : r.serialise[j]? = some b) :
    (packetBody id recs)[1 + 10 * k + j]? = some b := by
  rw [Nat.add_assoc, Nat.add_comm 1, packetBody, List.getElem?_cons_succ]
  exact getElem?_flatMap_serialise hrec hbyte

/-! ## The frame around a body -/

theorem frame_length (body : List Byte) : (frame body).length = body.length + 2 := by simp [frame]

theorem take_frame (body : List Byte) : (frame body).take body.length = body := List.take_left

theorem getElem?_frame_of_lt {body : List Byte} {i : Nat} (h : i < body.length) : (frame body)[i]? = body[i]? :=
  List.getElem?_append_left h

theorem getElem?_frame_crcLo (body : List Byte) : (frame body)[body.length]? = some (loByte (crc16 body)) := by
  simp [frame]

theorem getElem?_frame_crcHi (body : List Byte) : (frame body)[body.length + 1]? = some (hiByte (crc16 body)) := by
  simp [frame]

/-! ## The packet built from the buffer -/

@[simp] theorem State.slice_length (s : State) (base : U32) (n : Nat) : (s.slice base n).length = n := by
  simp [State.slice]

/-- Record `k` of a slice is the one in the slot of the cursor value `base + k` (R104, R114). -/
theorem State.getElem?_slice (s : State) (base : U32) {n k : Nat} (h : k < n) :
    (s.slice base n)[k]? = some (s.slotRead (Spec.slotOf (base + BitVec.ofNat 32 k) s.cfg)) := by
  simp [State.slice, h, Config.index_eq_mod, Spec.slotOf]

/-- The bytes of the packet that its CRC covers (R142, R145). -/
def State.bodyAt (s : State) (base : U32) (id : Byte) : List Byte := packetBody id (s.slice base s.cfg.spp)

theorem State.buildPacket_eq_frame (s : State) (base : U32) (id : Byte) :
    s.buildPacket base id = frame (s.bodyAt base id) := rfl

theorem State.bodyAt_length (s : State) (base : U32) (id : Byte) :
    (s.bodyAt base id).length = 1 + 10 * s.cfg.spp := by
  rw [State.bodyAt, packetBody_length, State.slice_length]

/-- Byte `j` of sample `k`, which is the record of `base + k`, stands at offset `1 + 10 * k + j` (R141). -/
theorem State.getElem?_buildPacket (s : State) (base : U32) (id : Byte) {k j : Nat} {b : Byte} (hk : k < s.cfg.spp)
    (hbyte : (s.slotRead (Spec.slotOf (base + BitVec.ofNat 32 k) s.cfg)).serialise[j]? = some b) :
    (s.buildPacket base id)[1 + 10 * k + j]? = some b := by
  have hbody := getElem?_packetBody id (s.getElem?_slice base hk) hbyte
  obtain ⟨hlt, -⟩ := List.getElem?_eq_some_iff.1 hbody
  exact (getElem?_frame_of_lt hlt).trans hbody

/-- A field whose two bytes stand at `j` in the record stands at `1 + 10 * k + j` in the packet, low byte first
(R74, R143). -/
theorem State.buildPacket_field (s : State) (base : U32) (id : Byte) {k : Nat} (hk : k < s.cfg.spp) (j : Nat) {v : U16}
    (hlo : (s.slotRead (Spec.slotOf (base + BitVec.ofNat 32 k) s.cfg)).serialise[j]? = some (loByte v))
    (hhi : (s.slotRead (Spec.slotOf (base + BitVec.ofNat 32 k) s.cfg)).serialise[j + 1]? = some (hiByte v)) :
    (s.buildPacket base id)[1 + 10 * k + j]? = some (BitVec.ofNat 8 v.toNat) ∧
    (s.buildPacket base id)[1 + 10 * k + j + 1]? = some (BitVec.ofNat 8 (v.toNat / 256)) :=
  ⟨s.getElem?_buildPacket base id hk hlo, hiByte_eq_ofNat v ▸ s.getElem?_buildPacket base id hk hhi⟩

/-- Settles O54: the body is the id and the records of the slice, ten bytes each, and the frame puts the CRC of the
body behind it. -/
theorem packetLayout : Obligations.PacketLayout := by
  intro s base id
  dsimp only
  have hlen := s.bodyAt_length base id
  have hcrcLo := getElem?_frame_crcLo (s.bodyAt base id)
  have hcrcHi := getElem?_frame_crcHi (s.bodyAt base id)
  have hcovered : (s.buildPacket base id).take (1 + 10 * s.cfg.spp + 2 - 2) = s.bodyAt base id :=
    hlen ▸ take_frame (s.bodyAt base id)
  rw [hlen, ← s.buildPacket_eq_frame] at hcrcLo hcrcHi
  rw [hiByte_eq_ofNat] at hcrcHi
  rw [hcovered]
  refine ⟨?_, rfl, fun k hk => ?_, hcrcLo, hcrcHi⟩
  · rw [s.buildPacket_eq_frame, frame_length, hlen]
  · exact ⟨s.buildPacket_field base id hk 0 rfl rfl, s.buildPacket_field base id hk 2 rfl rfl,
      s.buildPacket_field base id hk 4 rfl rfl, s.buildPacket_field base id hk 6 rfl rfl,
      s.buildPacket_field base id hk 8 rfl rfl⟩

end Sys2Proof.Machine
end

section
/-! SUPPORT. The mode controller: `MODE` as the DATA of an answer, and what SET_MODE and SET_POWER leave, each as the
chain of cases of its rule (R149 to R151). -/

namespace Sys2Proof.Machine

/-- `zext_32(MODE)` has the value of the mode (R43, R149). -/
theorem Mode.word_toNat (m : Mode) : m.word.toNat = Spec.modeNum m := by
  cases m
  · rfl
  · rfl

/-- An answer whose DATA is the present mode (R149 to R151). -/
theorem State.respond_mode_word (s : State) (c : RespCode) :
    s.respond c s.mode.word = Spec.answering s c.code.toNat (Spec.modeNum s.mode) := by
  rw [State.respond_eq_answering, Mode.word_toNat]

/-- Settles O1: GET_MODE answers the mode and is not refused while fatal. -/
theorem getModeAnswersTheMode : Obligations.GetModeAnswersTheMode := by
  intro s
  have hexec : exec .getMode s = .next (s.respond .ok s.mode.word) := rfl
  rw [hexec, State.respond_mode_word]
  rfl

/-- A byte above 1 names no mode (R150). -/
theorem modeOfByte_eq_none_of_one_lt {mv : Byte} (h : 1 < mv.toNat) : modeOfByte mv = none := by
  obtain ⟨rfl, -⟩ | ⟨rfl, -⟩ | hnone := modeOfByte_cases mv
  · exact absurd h (by decide)
  · exact absurd h (by decide)
  · exact hnone

/-- SET_MODE with a byte that names no mode answers the present one (R150). -/
theorem State.setMode_of_one_lt (s : State) {mv : Byte} (h : 1 < mv.toNat) (p : Bool) :
    s.setMode mv p = Spec.answering s 2 (Spec.modeNum s.mode) := by
  rw [State.setMode, modeOfByte_eq_none_of_one_lt h]
  exact s.respond_mode_word .invalidValue

/-- BURST is granted whatever P is (R150). -/
theorem State.setMode_zero (s : State) (p : Bool) :
    s.setMode 0 p = Spec.answering { s with mode := .burst } 0 0 :=
  State.respond_eq_answering { s with mode := .burst } .ok 0

/-- CONTINUOUS is granted exactly with power asserted in the request (R150). -/
theorem State.setMode_one (s : State) (p : Bool) :
    s.setMode 1 p = if p then Spec.answering { s with mode := .continuous } 0 1
      else Spec.answering s 1 (Spec.modeNum s.mode) := by
  cases p
  · exact s.respond_mode_word .permDenied
  · exact State.respond_eq_answering { s with mode := .continuous } .ok 1

/-- Settles O2: while fatal the request is refused; a byte above 1 names no mode, 0 is BURST, and 1 is CONTINUOUS,
which P decides. -/
theorem setModeFollowsThePermissionRule : Obligations.SetModeFollowsThePermissionRule := by
  intro s mv p
  have hexec : exec (.setMode mv p) s = .next (s.unlessHalted (s.setMode mv p)) := rfl
  rw [hexec, State.unlessHalted_eq_ite]
  by_cases hinvalid : 1 < mv.toNat
  · rw [if_pos hinvalid, State.setMode_of_one_lt s hinvalid]
  · rw [if_neg hinvalid]
    by_cases hburst : mv.toNat = 0
    · obtain rfl : mv = 0 := BitVec.eq_of_toNat_eq hburst
      rw [if_pos hburst, State.setMode_zero]
    · obtain rfl : mv = 1 := BitVec.eq_of_toNat_eq (show mv.toNat = 1 by omega)
      rw [if_neg hburst, State.setMode_one]

/-- Power withdrawn in CONTINUOUS leaves BURST, whatever PWR was (R151). -/
theorem State.setPower_of_withdrawn {s : State} {b : Bool} (h : b = false ∧ s.mode = .continuous) :
    s.setPower b = Spec.answering { s with pwr := b, mode := .burst } 0 0 := by
  have hdown : (!b && s.mode == .continuous) = true := by simpa using h
  rw [State.setPower, if_pos hdown, State.respond_eq_answering]
  rfl

/-- Otherwise the latch alone is written, and the mode answered (R151). -/
theorem State.setPower_of_not_withdrawn {s : State} {b : Bool} (h : ¬(b = false ∧ s.mode = .continuous)) :
    s.setPower b = Spec.answering { s with pwr := b } 0 (Spec.modeNum s.mode) := by
  have hkeep : ¬(!b && s.mode == .continuous) = true := by simpa using h
  rw [State.setPower, if_neg hkeep]
  exact State.respond_mode_word { s with pwr := b } .ok

/-- Settles O3: while fatal the request is refused; otherwise power is withdrawn in CONTINUOUS, or the mode stays. -/
theorem setPowerLatchesAndDowngrades : Obligations.SetPowerLatchesAndDowngrades := by
  intro s b
  have hexec : exec (.setPower b) s = .next (s.unlessHalted (s.setPower b)) := rfl
  rw [hexec, State.unlessHalted_eq_ite]
  by_cases hdown : b = false ∧ s.mode = .continuous
  · rw [if_pos hdown, State.setPower_of_withdrawn hdown]
  · rw [if_neg hdown, State.setPower_of_not_withdrawn hdown]

end Sys2Proof.Machine
end

section
/-! SUPPORT. The register view in the statements' terms (R58 to R61), and what READ_REG and the four link events answer
(R155 to R159). -/

namespace Sys2Proof.Machine

/-! ## The fields of STATUS and PKTPOS -/

/-- Two fields side by side have the value of the high one, moved up by the width of the low one, plus the low one. -/
theorem toNat_append_eq_mul_add {m n : Nat} (x : BitVec m) (y : BitVec n) :
    (x ++ y).toNat = x.toNat * 2 ^ n + y.toNat := by
  rw [BitVec.toNat_append, ← Nat.shiftLeft_add_eq_or_of_lt y.isLt, Nat.shiftLeft_eq]

theorem Mode.bit_toNat (m : Mode) : m.bit.toNat = Spec.modeNum m := by
  cases m
  · rfl
  · rfl

theorem PState.bit_toNat (p : PState) : p.bit.toNat = Spec.pstateNum p := by
  cases p
  · rfl
  · rfl

theorem BState.bits_toNat (b : BState) : b.bits.toNat = Spec.bstateNum b := by
  cases b
  · rfl
  · rfl
  · rfl
  · rfl

/-- The fields of STATUS at their bit places are their sum (R60). -/
theorem State.status_eq_statusWord (s : State) : s.status = Spec.statusWord s := by
  have hsum : s.status.toNat = Spec.modeNum s.mode + 2 * s.pwr.toNat + 4 * s.conn.toNat + 8 * s.subData.toNat
      + 16 * s.subHb.toNat + 32 * s.fatal.toNat + 64 * s.protoErr.toNat + 256 * Spec.pstateNum s.pstate
      + 4096 * Spec.bstateNum s.bstate := by
    simp only [State.status, toNat_append_eq_mul_add, BitVec.toNat_ofBool, Mode.bit_toNat, PState.bit_toNat,
      BState.bits_toNat, BitVec.toNat_ofNat]
    omega
  rw [Spec.statusWord, ← hsum, BitVec.ofNat_toNat, BitVec.setWidth_eq]

/-- PKTPOS has PKT_N in its high half and PKT_I in its low half (R61). -/
theorem State.pktPos_eq_ofNat (s : State) : s.pktPos = BitVec.ofNat 32 (65536 * s.pktN.toNat + s.pktI.toNat) := by
  have hsum : s.pktPos.toNat = 65536 * s.pktN.toNat + s.pktI.toNat := by
    rw [State.pktPos, toNat_append_eq_mul_add]
    omega
  rw [← hsum, BitVec.ofNat_toNat, BitVec.setWidth_eq]

/-! ## The register view -/

/-- The statements' table has the indices of the model's, each with the value of its register (R59). -/
theorem registerView_eq_map_viewMap (s : State) :
    Spec.registerView s = viewMap.map fun row => (row.1, s.view row.2) := by
  simp only [Spec.registerView, viewMap, List.map_append, List.map_cons, List.map_nil, State.view,
    s.status_eq_statusWord, s.pktPos_eq_ofNat, State.occ, Config.cap, Config.pktBytes, BitVec.ofNat_toNat]

/-- A table whose values are mapped answers the mapped value of the same row. -/
theorem lookup_map_snd {α β γ : Type} [BEq α] (f : β → γ) (rows : List (α × β)) (a : α) :
    (rows.map fun row => (row.1, f row.2)).lookup a = (rows.lookup a).map f := by
  induction rows with
  | nil => rfl
  | cons row rows ih =>
    rw [List.map_cons, List.lookup_cons, List.lookup_cons, ih]
    cases a == row.1
    · rfl
    · rfl

theorem lookup_registerView (s : State) (idx : Byte) :
    (Spec.registerView s).lookup idx = (ViewReg.ofIndex idx).map s.view := by
  rw [registerView_eq_map_viewMap, lookup_map_snd, ViewReg.ofIndex]

/-- READ_REG of a listed index answers the register, also while fatal (R97, R159). -/
theorem exec_readReg_of_listed {idx : Byte} {r : ViewReg} (h : ViewReg.ofIndex idx = some r) (s : State) :
    exec (.readReg idx) s = .next (s.respond .ok (s.view r)) := by
  simp only [exec, execReadReg, h]

/-- READ_REG of a reserved index answers INVALID_VALUE and 0 (R159). -/
theorem exec_readReg_of_reserved {idx : Byte} (h : ViewReg.ofIndex idx = none) (s : State) :
    exec (.readReg idx) s = .next (s.respond .invalidValue 0) := by
  simp only [exec, execReadReg, h]

/-- Settles O4: an index is listed in both tables or in neither, and a listed one has the same value in both. -/
theorem readRegAnswersTheRegisterView : Obligations.ReadRegAnswersTheRegisterView := by
  intro s idx
  rw [lookup_registerView]
  cases hidx : ViewReg.ofIndex idx with
  | none =>
    rw [exec_readReg_of_reserved hidx, State.respond_eq_answering]
    rfl
  | some r =>
    rw [exec_readReg_of_listed hidx, State.respond_eq_answering]
    rfl

/-! ## The link record -/

/-- A request that is refused while fatal and otherwise answers `OK, 0` on the state it leaves (R97, R169). -/
theorem State.unlessHalted_respond_ok (s t : State) :
    s.unlessHalted (t.respond .ok 0) = if s.fatal then Spec.halted s else Spec.answering t 0 0 := by
  rw [State.unlessHalted_eq_ite, State.respond_eq_answering]
  rfl

/-- Settles O5: both events are refused while fatal, and otherwise leave a fresh link record, with CONN set or clear. -/
theorem connectAndDisconnectMakeAFreshLinkRecord : Obligations.ConnectAndDisconnectMakeAFreshLinkRecord := by
  intro s
  have hconnect : exec .linkConnect s = .next (s.unlessHalted ((s.freshLink true).respond .ok 0)) := rfl
  have hdisconnect : exec .linkDisconnect s = .next (s.unlessHalted ((s.freshLink false).respond .ok 0)) := rfl
  rw [hconnect, hdisconnect, State.unlessHalted_respond_ok, State.unlessHalted_respond_ok]
  exact ⟨rfl, rfl⟩

/-- LINK_SUBSCRIBE writes the flag SEL names and keeps the other (R157). -/
theorem State.subscribe_eq (s : State) (sel en : Bool) :
    s.subscribe sel en = { s with subData := if sel then s.subData else en, subHb := if sel then en else s.subHb } := by
  cases sel
  · rfl
  · rfl

/-- Settles O6: the event is refused while fatal, and otherwise writes the flag SEL names, CONN not asked. -/
theorem subscribeWritesTheSelectedFlag : Obligations.SubscribeWritesTheSelectedFlag := by
  intro s sel en
  have hexec : exec (.linkSubscribe sel en) s = .next (s.unlessHalted ((s.subscribe sel en).respond .ok 0)) := rfl
  rw [hexec, State.unlessHalted_respond_ok, State.subscribe_eq]

/-- Settles O7: the event is refused while fatal, and otherwise stores the value, whatever it is. -/
theorem linkUnitStoresEveryValue : Obligations.LinkUnitStoresEveryValue := by
  intro s n
  have hexec : exec (.linkUnit n) s = .next (s.unlessHalted (State.respond { s with unit := n } .ok 0)) := rfl
  rw [hexec, State.unlessHalted_respond_ok]

end Sys2Proof.Machine
end

section
/-! SUPPORT. The exceptions: an event its unit is not waiting for (R166), and what is left of a step while the block is
fatal (R169, R170). -/

namespace Sys2Proof.Machine

/-! ## Unexpected events -/

/-- An event's own effect is discarded where its unit is not waiting for it (R166). -/
theorem State.unlessHalted_ite_unexpected {s t : State} {p : Prop} [Decidable p] (hrun : s.fatal = false) (hp : ¬p) :
    s.unlessHalted (if p then t else s.unexpectedEvent) = Spec.unexpected s := by
  rw [State.unlessHalted_running hrun, if_neg hp, State.unexpectedEvent_eq_unexpected]

/-- While not fatal, a word that its party may not send now is answered UNEXPECTED: only the five events can be such a
word (R160, R166). -/
theorem exec_of_mayArrive_eq_false {i : Instr} {s : State} (hrun : s.fatal = false) (hearly : s.mayArrive i = false) :
    exec i s = .next (Spec.unexpected s) := by
  cases i with
  | sensorOk x y z => exact congrArg _ (State.unlessHalted_ite_unexpected hrun (ne_of_beq_false hearly))
  | sensorErr => exact congrArg _ (State.unlessHalted_ite_unexpected hrun (ne_of_beq_false hearly))
  | txOk => exact congrArg _ (State.unlessHalted_ite_unexpected hrun (ne_of_beq_false hearly))
  | txFail => exact congrArg _ (State.unlessHalted_ite_unexpected hrun (ne_of_beq_false hearly))
  | paceDone => exact congrArg _ (State.unlessHalted_ite_unexpected hrun (ne_of_beq_false hearly))
  | getMode | setMode | setPower | readReg | linkConnect | linkDisconnect | linkSubscribe | linkUnit | tick =>
    cases hearly

/-- Settles O16: outside the state that awaits it, an event is a word that may not arrive. -/
theorem unawaitedEventsAreUnexpected : Obligations.UnawaitedEventsAreUnexpected := by
  intro s x y z hrun
  refine ⟨fun hwait => ?_, fun htxw => ?_, fun hpace => ?_⟩
  · have hearly : (s.pstate == .wait) = false := beq_false_of_ne hwait
    exact ⟨exec_of_mayArrive_eq_false hrun hearly, exec_of_mayArrive_eq_false hrun hearly⟩
  · have hearly : (s.bstate == .txw) = false := beq_false_of_ne htxw
    exact ⟨exec_of_mayArrive_eq_false hrun hearly, exec_of_mayArrive_eq_false hrun hearly⟩
  · have hearly : (s.bstate == .pace) = false := beq_false_of_ne hpace
    exact exec_of_mayArrive_eq_false hrun hearly

/-! ## The fatal state -/

/-- No internal step is enabled while fatal (R98, R169). -/
theorem State.fatal_eq_false_of_enabled {s : State} {u : InternalStep} (h : s.enabled u = true) : s.fatal = false := by
  cases u with
  | producerFetch => exact (s.fetchEnabled_iff.1 h).1
  | burstWake => exact (s.wakeEnabled_iff.1 h).1
  | burstPacket => exact (s.packetEnabled_iff.1 h).1

/-- Beginning a step touches only the ports and the schedule (R82, R95, R99). -/
@[simp] theorem State.beginStep_arch (s : State) (now : U16) (rest : List Stimulus) :
    (s.beginStep now rest).arch = s.arch := rfl

/-- An answer touches only the response port (R95). -/
@[simp] theorem State.respond_arch (s : State) (c : RespCode) (d : U32) : (s.respond c d).arch = s.arch := rfl

/-- Settles O49: such a step waits or only answers, since to perform a request or to take an internal step the block
must not be fatal. -/
theorem theFatalStateIsFrozenUntilReset : Obligations.TheFatalStateIsFrozenUntilReset := by
  intro s t hfatal hnoReset hstep
  have hnotRunning : s.fatal ≠ false := hfatal.trans_ne nofun
  obtain ⟨now, rest, (rfl | ⟨c, d, rfl⟩) | ⟨i, -, hrun, -⟩ | ⟨u, -, henabled, -⟩⟩ :=
    step_cases_of_noReset hnoReset hstep
  · rw [State.beginStep_arch]
  · rw [State.respond_arch, State.beginStep_arch]
  · exact absurd hrun hnotRunning
  · exact absurd (State.fatal_eq_false_of_enabled henabled) hnotRunning

end Sys2Proof.Machine
end

section
/-! SUPPORT. Reset: the values of R64, which `rst` puts from every state (R180). -/

namespace Sys2Proof.Machine

/-- Every instance is built with the values of R64: no slot byte is written and every register is clear. -/
theorem State.resetOf_resetValues (c : Config) : Spec.ResetValues (State.resetOf c) := by
  simp [Spec.ResetValues, State.resetOf, Memory.read?_nil]

/-- What `rst` keeps (the bus, the schedule) and counts (the epoch) is no element of R64, so the values are those of a
new instance with the same configuration (R180). -/
theorem State.assertReset_resetValues (s : State) : Spec.ResetValues s.assertReset :=
  State.resetOf_resetValues s.cfg

/-- Settles O25: the step is `rst`, after the schedule has moved on and the ports are clear. -/
theorem resetStepGivesTheResetValues : Obligations.ResetStepGivesTheResetValues := by
  intro s rest hsched
  have hvalues : Spec.ResetValues (s.beginStep s.timeNow rest).assertReset := State.assertReset_resetValues _
  exact ⟨_, step_reset hsched, hvalues, rfl, rfl, rfl, rfl⟩

end Sys2Proof.Machine
end

section
/-! SUPPORT. The round trip between instructions and request words (R83 to R94): an instruction's word meets its own row
of the opcode map, and a payload is rebuilt from the operands read out of it. -/

namespace Sys2Proof

/-! ## Decoding a word by its row -/

/-- A word with a row, `RSV` clear and the row's unused `PAY` bits clear decodes to the row's operands (R94). -/
theorem decode_of_row {w : Word64} {r : OpcodeRow} (hrow : opcodeRow (opcField w) = some r) (hrsv : rsvField w = 0)
    (hpay : payField w &&& r.format.unusedPay = 0) : decode w = .instr (operandsOf r.op (payField w)) := by
  simp [decode, hrow, hrsv, hpay]

/-- No two rows share an opcode, so each row is the one found for its own (R85). -/
theorem opcodeRow_opc_of_mem : ∀ r ∈ opcodeMap, opcodeRow r.opc = some r := by decide

/-! ## The operand fields as numbers (R86 to R92) -/

section
variable (p : BitVec 48)

theorem payX_toNat : (payX p).toNat = p.toNat % 2 ^ 16 := rfl

theorem payY_toNat : (payY p).toNat = p.toNat / 2 ^ 16 % 2 ^ 16 := by
  rw [payY, BitVec.extractLsb'_toNat, Nat.shiftRight_eq_div_pow]

theorem payZ_toNat : (payZ p).toNat = p.toNat / 2 ^ 32 % 2 ^ 16 := by
  rw [payZ, BitVec.extractLsb'_toNat, Nat.shiftRight_eq_div_pow]

theorem payByte_toNat : (payByte p).toNat = p.toNat % 2 ^ 8 := rfl

theorem payUnit_toNat : (payUnit p).toNat = p.toNat % 2 ^ 16 := rfl

theorem payBit0_toNat : (payBit0 p).toNat = p.toNat % 2 := by
  rw [payBit0, BitVec.getLsbD, Nat.toNat_testBit, pow_zero, Nat.div_one]

theorem payBit8_toNat : (payBit8 p).toNat = p.toNat / 2 ^ 8 % 2 := by
  rw [payBit8, BitVec.getLsbD, Nat.toNat_testBit]

end

theorem bool_eq_of_toNat_eq : ∀ {a b : Bool}, a.toNat = b.toNat → a = b := by decide

/-! ## The payload of each format as a number (R86 to R92) -/

theorem payload_setMode_toNat (mv : Byte) (p : Bool) :
    (Instr.setMode mv p).payload.toNat = p.toNat * 2 ^ 8 + mv.toNat := by
  simp only [Instr.payload, Machine.toNat_append_eq_mul_add, BitVec.toNat_ofBool, BitVec.toNat_ofNat]
  omega

theorem payload_setPower_toNat (b : Bool) : (Instr.setPower b).payload.toNat = b.toNat := by
  simp only [Instr.payload, Machine.toNat_append_eq_mul_add, BitVec.toNat_ofBool, BitVec.toNat_ofNat]
  omega

theorem payload_readReg_toNat (idx : Byte) : (Instr.readReg idx).payload.toNat = idx.toNat := by
  simp only [Instr.payload, Machine.toNat_append_eq_mul_add, BitVec.toNat_ofNat]
  omega

theorem payload_linkSubscribe_toNat (sel en : Bool) :
    (Instr.linkSubscribe sel en).payload.toNat = sel.toNat * 2 ^ 8 + en.toNat := by
  simp only [Instr.payload, Machine.toNat_append_eq_mul_add, BitVec.toNat_ofBool, BitVec.toNat_ofNat]
  omega

theorem payload_linkUnit_toNat (n : U16) : (Instr.linkUnit n).payload.toNat = n.toNat := by
  simp only [Instr.payload, Machine.toNat_append_eq_mul_add, BitVec.toNat_ofNat]
  omega

theorem payload_sensorOk_toNat (x y z : U16) :
    (Instr.sensorOk x y z).payload.toNat = (z.toNat * 2 ^ 16 + y.toNat) * 2 ^ 16 + x.toNat := by
  simp only [Instr.payload, Machine.toNat_append_eq_mul_add]

/-! ## Decode of encode -/

/-- The row of the opcode map an instruction is encoded by (R85). -/
def Instr.row : Instr → OpcodeRow
  | .getMode => ⟨0x01, .getMode, .f0⟩
  | .setMode _ _ => ⟨0x02, .setMode, .fm⟩
  | .setPower _ => ⟨0x03, .setPower, .fb⟩
  | .readReg _ => ⟨0x04, .readReg, .fr⟩
  | .linkConnect => ⟨0x10, .linkConnect, .f0⟩
  | .linkDisconnect => ⟨0x11, .linkDisconnect, .f0⟩
  | .linkSubscribe _ _ => ⟨0x12, .linkSubscribe, .fl⟩
  | .linkUnit _ => ⟨0x13, .linkUnit, .fu⟩
  | .sensorOk _ _ _ => ⟨0x20, .sensorOk, .fs⟩
  | .sensorErr => ⟨0x21, .sensorErr, .f0⟩
  | .txOk => ⟨0x22, .txOk, .f0⟩
  | .txFail => ⟨0x23, .txFail, .f0⟩
  | .tick => ⟨0x30, .tick, .f0⟩
  | .paceDone => ⟨0x31, .paceDone, .f0⟩

theorem opcodeRow_opcode (i : Instr) : opcodeRow i.opcode = some i.row := by
  cases i <;> rfl

/-- Words side by side have no bit in common if the words at each place have none. -/
theorem append_and_append_eq_zero {m n : Nat} {x x' : BitVec m} {y y' : BitVec n} (hx : x &&& x' = 0#m)
    (hy : y &&& y' = 0#n) : (x ++ y) &&& (x' ++ y') = 0#(m + n) := by
  rw [BitVec.and_append, hx, hy, BitVec.zero_append_zero]

/-- An instruction's payload is clear outside the fields of its format (R86 to R92). -/
theorem payload_and_unusedPay (i : Instr) : i.payload &&& i.row.format.unusedPay = 0 := by
  cases i with
  | setMode mv p =>
    have hmask : Format.fm.unusedPay = BitVec.allOnes 39 ++ 0#1 ++ 0#8 := rfl
    exact hmask ▸ append_and_append_eq_zero (append_and_append_eq_zero BitVec.zero_and BitVec.and_zero) BitVec.and_zero
  | setPower b =>
    have hmask : Format.fb.unusedPay = BitVec.allOnes 47 ++ 0#1 := rfl
    exact hmask ▸ append_and_append_eq_zero BitVec.zero_and BitVec.and_zero
  | readReg idx =>
    have hmask : Format.fr.unusedPay = BitVec.allOnes 40 ++ 0#8 := rfl
    exact hmask ▸ append_and_append_eq_zero BitVec.zero_and BitVec.and_zero
  | linkSubscribe sel en =>
    have hmask : Format.fl.unusedPay = BitVec.allOnes 39 ++ 0#1 ++ BitVec.allOnes 7 ++ 0#1 := rfl
    exact hmask ▸ append_and_append_eq_zero
      (append_and_append_eq_zero (append_and_append_eq_zero BitVec.zero_and BitVec.and_zero) BitVec.zero_and)
      BitVec.and_zero
  | linkUnit n =>
    have hmask : Format.fu.unusedPay = BitVec.allOnes 32 ++ 0#16 := rfl
    exact hmask ▸ append_and_append_eq_zero BitVec.zero_and BitVec.and_zero
  | sensorOk x y z => exact BitVec.and_zero
  | getMode | linkConnect | linkDisconnect | sensorErr | txOk | txFail | tick | paceDone => rfl

/-- The operands read back from an instruction's payload are its own. -/
theorem operandsOf_payload (i : Instr) : operandsOf i.row.op i.payload = i := by
  cases i with
  | setMode mv p =>
    have hnum := payload_setMode_toNat mv p
    have hp := p.toNat_lt
    exact congrArg₂ Instr.setMode (BitVec.eq_of_toNat_eq (by rw [payByte_toNat]; omega))
      (bool_eq_of_toNat_eq (by rw [payBit8_toNat]; omega))
  | setPower b =>
    have hnum := payload_setPower_toNat b
    have hb := b.toNat_lt
    exact congrArg Instr.setPower (bool_eq_of_toNat_eq (by rw [payBit0_toNat]; omega))
  | readReg idx =>
    have hnum := payload_readReg_toNat idx
    exact congrArg Instr.readReg (BitVec.eq_of_toNat_eq (by rw [payByte_toNat]; omega))
  | linkSubscribe sel en =>
    have hnum := payload_linkSubscribe_toNat sel en
    have hsel := sel.toNat_lt
    have hen := en.toNat_lt
    exact congrArg₂ Instr.linkSubscribe (bool_eq_of_toNat_eq (by rw [payBit8_toNat]; omega))
      (bool_eq_of_toNat_eq (by rw [payBit0_toNat]; omega))
  | linkUnit n =>
    have hnum := payload_linkUnit_toNat n
    exact congrArg Instr.linkUnit (BitVec.eq_of_toNat_eq (by rw [payUnit_toNat]; omega))
  | sensorOk x y z =>
    have hnum := payload_sensorOk_toNat x y z
    have hx : payX (Instr.sensorOk x y z).payload = x := BitVec.eq_of_toNat_eq (by rw [payX_toNat]; omega)
    have hy : payY (Instr.sensorOk x y z).payload = y := BitVec.eq_of_toNat_eq (by rw [payY_toNat]; omega)
    have hz : payZ (Instr.sensorOk x y z).payload = z := BitVec.eq_of_toNat_eq (by rw [payZ_toNat]; omega)
    simp only [Instr.row, operandsOf, hx, hy, hz]
  | getMode | linkConnect | linkDisconnect | sensorErr | txOk | txFail | tick | paceDone => rfl

/-- An instruction's word decodes to it: its fields are its opcode, 0 and its payload, which its own row accepts. -/
theorem decode_encode (i : Instr) : decode (encode i) = .instr i := by
  obtain ⟨hopc, hrsv, hpay⟩ := Laws.WordFields.all i
  have hrow : opcodeRow (opcField (encode i)) = some i.row := hopc ▸ opcodeRow_opcode i
  have hclear : payField (encode i) &&& i.row.format.unusedPay = 0 := hpay ▸ payload_and_unusedPay i
  rw [decode_of_row hrow hrsv hclear, hpay, operandsOf_payload]

/-- Settles O29: the round trip holds of every term, since every term is well formed. -/
theorem decodeOfEncodeIsTheInstruction : Obligations.DecodeOfEncodeIsTheInstruction :=
  fun i _ => decode_encode i

/-! ## Encode of decode -/

/-- Bits that a mask of ones finds clear are 0. -/
theorem toNat_div_mod_of_and_eq_zero {w : Nat} {p m : BitVec w} (h : p &&& m = 0) (k n : Nat)
    (hones : m.extractLsb' k n = BitVec.allOnes n) : p.toNat / 2 ^ k % 2 ^ n = 0 := by
  have hbits : p.extractLsb' k n = 0 := by
    rw [← BitVec.and_allOnes (x := p.extractLsb' k n), ← hones, ← BitVec.extractLsb'_and, h]
    simp
  rw [← Nat.shiftRight_eq_div_pow, ← BitVec.extractLsb'_toNat, hbits, BitVec.ofNat_eq_ofNat, BitVec.toNat_ofNat]
  simp

/-- An instruction read by a row of the map has that row. -/
theorem row_operandsOf {r : OpcodeRow} (hmem : r ∈ opcodeMap) (p : BitVec 48) : (operandsOf r.op p).row = r := by
  revert r
  simp [opcodeMap, operandsOf, Instr.row]

theorem row_opc (i : Instr) : i.row.opc = i.opcode := by
  cases i <;> rfl

/-- A payload that is clear outside the operands' format is the payload of the operands read out of it. -/
theorem payload_operandsOf (op : Opcode) {p : BitVec 48}
    (hclear : p &&& (operandsOf op p).row.format.unusedPay = 0) : (operandsOf op p).payload = p := by
  have hp := p.isLt
  apply BitVec.eq_of_toNat_eq
  cases op with
  | setMode =>
    have hhigh := toNat_div_mod_of_and_eq_zero (m := Format.fm.unusedPay) hclear 9 39 (by decide)
    rw [operandsOf, payload_setMode_toNat, payBit8_toNat, payByte_toNat]
    omega
  | setPower =>
    have hhigh := toNat_div_mod_of_and_eq_zero (m := Format.fb.unusedPay) hclear 1 47 (by decide)
    rw [operandsOf, payload_setPower_toNat, payBit0_toNat]
    omega
  | readReg =>
    have hhigh := toNat_div_mod_of_and_eq_zero (m := Format.fr.unusedPay) hclear 8 40 (by decide)
    rw [operandsOf, payload_readReg_toNat, payByte_toNat]
    omega
  | linkSubscribe =>
    have hhigh := toNat_div_mod_of_and_eq_zero (m := Format.fl.unusedPay) hclear 9 39 (by decide)
    have hmid := toNat_div_mod_of_and_eq_zero (m := Format.fl.unusedPay) hclear 1 7 (by decide)
    rw [operandsOf, payload_linkSubscribe_toNat, payBit8_toNat, payBit0_toNat]
    omega
  | linkUnit =>
    have hhigh := toNat_div_mod_of_and_eq_zero (m := Format.fu.unusedPay) hclear 16 32 (by decide)
    rw [operandsOf, payload_linkUnit_toNat, payUnit_toNat]
    omega
  | sensorOk =>
    rw [operandsOf, payload_sensorOk_toNat, payX_toNat, payY_toNat, payZ_toNat]
    omega
  | getMode | linkConnect | linkDisconnect | sensorErr | txOk | txFail | tick | paceDone =>
    have hmask : Format.f0.unusedPay = BitVec.allOnes 48 := rfl
    have hzero : p &&& Format.f0.unusedPay = 0 := hclear
    rw [hmask, BitVec.and_allOnes] at hzero
    exact congrArg BitVec.toNat hzero.symm

/-- Settles O30: an accepted word passed the three checks, so it is the opcode of its row, 0 and its own payload. -/
theorem encodeOfDecodeIsTheWord : Obligations.EncodeOfDecodeIsTheWord := by
  intro w i hdecode
  obtain ⟨r, hrow, hrsv, hclear, rfl⟩ := exists_row_of_decode_eq_instr hdecode
  obtain ⟨hmem, hopc⟩ := mem_and_opc_eq_of_opcodeRow_eq_some hrow
  have hr : (operandsOf r.op (payField w)).row = r := row_operandsOf hmem (payField w)
  rw [encode, ← row_opc, hr, hopc, payload_operandsOf r.op (hr.symm ▸ hclear)]
  have hfields := opcField_append_rsvField_append_payField w
  rw [hrsv] at hfields
  exact hfields

/-! ## The words the decoder accepts -/

/-- A word that a row matches under its mask has the row's opcode and passes R94's checks (b) and (c). -/
theorem fields_of_and_maskWord_eq {w : Word64} {r : OpcodeRow} (h : w &&& r.maskWord = r.matchWord) :
    opcField w = r.opc ∧ rsvField w = 0 ∧ payField w &&& r.format.unusedPay = 0 := by
  rw [← opcField_append_rsvField_append_payField w, OpcodeRow.maskWord, OpcodeRow.matchWord, BitVec.and_append,
    BitVec.and_append, BitVec.and_allOnes, BitVec.and_allOnes] at h
  obtain ⟨hopc, hrsv, hpay⟩ := Laws.WordFields.fields_of_append r.opc 0#8 0#48
  rw [← h] at hopc hrsv hpay
  obtain ⟨hopc', hrsv', hpay'⟩ :=
    Laws.WordFields.fields_of_append (opcField w) (rsvField w) (payField w &&& r.format.unusedPay)
  exact ⟨hopc'.symm.trans hopc, hrsv'.symm.trans hrsv, hpay'.symm.trans hpay⟩

/-- Settles O28: an accepted word matches its row, and a word that a row matches passes the row's three checks. -/
theorem decoderAcceptsExactlyTheOpcodeMap : Obligations.DecoderAcceptsExactlyTheOpcodeMap := by
  intro w
  refine ⟨fun ⟨i, hdecode⟩ => exists_mem_opcodeRows_of_decode_eq_instr hdecode, fun ⟨row, hrow, hmatch⟩ => ?_⟩
  rw [opcodeRows_eq_map_opcodeMap] at hrow
  obtain ⟨r, hmem, rfl⟩ := List.mem_map.1 hrow
  obtain ⟨hopc, hrsv, hpay⟩ := fields_of_and_maskWord_eq hmatch
  exact ⟨_, decode_of_row (hopc ▸ opcodeRow_opc_of_mem r hmem) hrsv hpay⟩

/-- Settles O27: each word is the encoding of the instruction it stands for. -/
theorem specWordsDecode : Obligations.SpecWordsDecode :=
  ⟨decode_encode .getMode, decode_encode (.setMode 1 true), decode_encode (.readReg 0xFF),
    decode_encode (.linkSubscribe true false), decode_encode (.linkUnit 0x8001),
    decode_encode (.sensorOk 0x0001 0xFFFE 0x0003), decode_encode .paceDone⟩

end Sys2Proof
end

section
/-! SUPPORT. What a step other than `rst` leaves, a constructor per outcome (R20, R97, R98, R115 to R136, R149 to R158):
the nested cases of the shared operations laid flat, once, for every proof about what is written and by whom. -/

namespace Sys2Proof.Machine

/-- The transport's two results, TX_OK and TX_FAIL (R132, R133). -/
def txResult (ok : Bool) : Instr := bif ok then .txOk else .txFail

/-- The attempt counted by the transport's result (R132, R133). -/
def State.counted (s : State) (ok : Bool) : State :=
  { s with txOkCnt := bif ok then s.txOkCnt + 1 else s.txOkCnt,
           txFailCnt := bif ok then s.txFailCnt else s.txFailCnt + 1 }

/-- The attempt counted and the packet position moved on (R134). -/
def State.attempted (s : State) (ok : Bool) : State := { s.counted ok with pktI := s.pktI + 1 }

/-- The state that a wake leaves when a gate is closed: every unread sample is drained (R113, R127). -/
def State.drained (s : State) (notReady unitSkip : U32) : State :=
  { s with burstPend := s.burstPend - 1, drainDropCnt := s.drainDropCnt + s.occ, rc := s.wc,
           notReadyCnt := notReady, unitSkipCnt := unitSkip }

/-- The end of a request that raises a fatal cause (R168). -/
def State.halt (s : State) (c : FatalCause) : State := (Attempt.fatal c).orFatal s

/-- What is left of the state `s` whose step has begun, where the step performs the request `req` or takes the enabled
internal step `int`: nothing more than an answer, an unexpected event (R166), or one outcome of the rule's cases. -/
inductive State.Leaves (s : State) : Option Instr → Option InternalStep → State → Prop
  -- ports only, unexpected events
  | still {req int} : s.Leaves req int s
  | answer {req} (c : RespCode) (d : U32) : s.Leaves req none (s.respond c d)
  | unexpected {i} (hearly : s.mayArrive i = false) : s.Leaves (some i) none s.unexpectedEvent
  -- mode and power
  | setBurst (p : Bool) : s.Leaves (some (.setMode 0 p)) none (State.respond { s with mode := .burst } .ok 0)
  | setContinuous : s.Leaves (some (.setMode 1 true)) none (State.respond { s with mode := .continuous } .ok 1)
  | setPower (b : Bool) : s.Leaves (some (.setPower b)) none (State.respond { s with pwr := b } .ok s.mode.word)
  | downgrade (hmode : s.mode = .continuous) :
      s.Leaves (some (.setPower false)) none (State.respond { s with pwr := false, mode := .burst } .ok 0)
  -- link record
  | linkConnect : s.Leaves (some .linkConnect) none ((s.freshLink true).respond .ok 0)
  | linkDisconnect : s.Leaves (some .linkDisconnect) none ((s.freshLink false).respond .ok 0)
  | subscribeData (en : Bool) :
      s.Leaves (some (.linkSubscribe false en)) none (State.respond { s with subData := en } .ok 0)
  | subscribeHeartbeat (en : Bool) :
      s.Leaves (some (.linkSubscribe true en)) none (State.respond { s with subHb := en } .ok 0)
  | linkUnit (n : U16) : s.Leaves (some (.linkUnit n)) none (State.respond { s with unit := n } .ok 0)
  -- sample clock and producer
  | tick (hroom : s.tickPend ≠ 0xFFFF) :
      s.Leaves (some .tick) none
        (State.respond { s with tsSlot := s.timeNow - s.wstart, tickPend := s.tickPend + 1 } .ok 0)
  | tickOverflow (hfull : s.tickPend = 0xFFFF) : s.Leaves (some .tick) none (s.halt .tickOverflow)
  | fetch : s.Leaves none (some .producerFetch) s.producerFetch
  | sensorErr (hwait : s.pstate = .wait) :
      s.Leaves (some .sensorErr) none
        (State.respond { s with readFailCnt := s.readFailCnt + 1, pstate := .idle } .ok 0)
  | drop (x y z : U16) (hwait : s.pstate = .wait) (hfull : s.occ.toNat = s.cfg.cap) :
      s.Leaves (some (.sensorOk x y z)) none
        (State.respond { s with overflowCnt := s.overflowCnt + 1, seq := s.seq + 1, pstate := .idle } .ok 0)
  | store (x y z : U16) (hwait : s.pstate = .wait) (hroom : s.occ.toNat < s.cfg.cap) :
      s.Leaves (some (.sensorOk x y z)) none ((s.stored x y z).respond .ok 0)
  | sampleOver (x y z : U16) (hover : s.cfg.cap < s.occ.toNat) :
      s.Leaves (some (.sensorOk x y z)) none (s.halt .cursorInvariant)
  | signalOverflow (x y z : U16) (hfull : s.burstPend = 0xFFFF) :
      s.Leaves (some (.sensorOk x y z)) none (s.halt .burstSignalOverflow)
  -- burst controller
  | wakeNotReady (hidle : s.bstate = .idle) (hpend : s.burstPend ≠ 0) (hlink : s.linkReady = false) :
      s.Leaves none (some .burstWake) (s.drained (s.notReadyCnt + 1) s.unitSkipCnt)
  | wakeUnitSkip (hidle : s.bstate = .idle) (hpend : s.burstPend ≠ 0) (hlink : s.linkReady = true)
      (hunit : s.unitReady = false) :
      s.Leaves none (some .burstWake) (s.drained s.notReadyCnt (s.unitSkipCnt + 1))
  | wakeNoPacket (hidle : s.bstate = .idle) (hpend : s.burstPend ≠ 0) :
      s.Leaves none (some .burstWake) { s with burstPend := s.burstPend - 1 }
  | wakeStart (hidle : s.bstate = .idle) (hpend : s.burstPend ≠ 0) (hlink : s.linkReady = true)
      (hsome : s.packetCount ≠ 0) :
      s.Leaves none (some .burstWake)
        { s with burstPend := s.burstPend - 1, pktN := BitVec.ofNat 16 s.packetCount, pktI := 0, bstate := .pkt }
  | send (hpkt : s.bstate = .pkt) (hconn : s.conn = true) :
      s.Leaves none (some .burstPacket)
        { s with bstate := .txw, out := some (.txReq (s.buildPacket s.packetBase s.burstId)) }
  | abort (hpkt : s.bstate = .pkt) (hconn : s.conn = false) (hfit : s.pktI.toNat * s.cfg.spp ≤ s.occ.toNat) :
      s.Leaves none (some .burstPacket) (s.finished true s.pktI.toNat)
  | abortOver (hpkt : s.bstate = .pkt) (hover : s.occ.toNat < s.pktI.toNat * s.cfg.spp) :
      s.Leaves none (some .burstPacket) (s.raiseFatal .cursorInvariant)
  | txLast (ok : Bool) (htxw : s.bstate = .txw) (hlast : s.pktI + 1 = s.pktN)
      (hfit : s.pktN.toNat * s.cfg.spp ≤ s.occ.toNat) :
      s.Leaves (some (txResult ok)) none (((s.attempted ok).finished false s.pktN.toNat).respond .ok 0)
  | txPace (ok : Bool) (htxw : s.bstate = .txw) (hmore : s.pktI + 1 ≠ s.pktN) (hmode : s.mode = .burst) :
      s.Leaves (some (txResult ok)) none
        (State.respond { s.attempted ok with bstate := .pace, out := some .paceReq } .ok 0)
  | txGoOn (ok : Bool) (htxw : s.bstate = .txw) (hmore : s.pktI + 1 ≠ s.pktN) :
      s.Leaves (some (txResult ok)) none (State.respond { s.attempted ok with bstate := .pkt } .ok 0)
  | txOver (ok : Bool) (htxw : s.bstate = .txw) (hover : s.occ.toNat < s.pktN.toNat * s.cfg.spp) :
      s.Leaves (some (txResult ok)) none (s.halt .cursorInvariant)
  | paceDone (hpace : s.bstate = .pace) : s.Leaves (some .paceDone) none (State.respond { s with bstate := .pkt } .ok 0)

/-! ## Every outcome is one of these -/

theorem State.leaves_acceptSample {s : State} (x y z : U16) (hwait : s.pstate = .wait) :
    s.Leaves (some (.sensorOk x y z)) none ((s.acceptSample x y z).orFatal s) := by
  obtain ⟨hfull, he⟩ | ⟨hroom, hbelow, -⟩ | ⟨hroom, hedge, hpend, -⟩ | ⟨hover, he⟩ | ⟨-, -, hfull, he⟩ :=
    s.acceptSample_cases x y z
  · exact he ▸ .drop x y z hwait hfull
  · exact s.acceptSample_of_room hroom (absurd · hbelow) x y z ▸ .store x y z hwait hroom
  · exact s.acceptSample_of_room hroom (fun _ => hpend) x y z ▸ .store x y z hwait hroom
  · exact he ▸ .sampleOver x y z hover
  · exact he ▸ .signalOverflow x y z hfull

theorem State.leaves_tick (s : State) : s.Leaves (some .tick) none (s.tick.orFatal s) := by
  obtain ⟨hroom, he⟩ | ⟨hfull, he⟩ := s.tick_cases
  · exact he ▸ .tick hroom
  · exact he ▸ .tickOverflow hfull

theorem State.leaves_afterAttempt {s : State} (ok : Bool) (htxw : s.bstate = .txw) :
    s.Leaves (some (txResult ok)) none ((s.counted ok).afterAttempt.orFatal s) := by
  obtain ⟨hlast, he⟩ | ⟨hmore, hmode, he⟩ | ⟨hmore, -, he⟩ := (s.counted ok).afterAttempt_cases
  · have hi : s.pktI + 1 = s.pktN := hlast
    have he' : (s.counted ok).afterAttempt = (s.attempted ok).finish false s.pktN.toNat := hi ▸ he
    obtain ⟨hfit, hf⟩ | ⟨hover, hf⟩ := (s.attempted ok).finish_cases false s.pktN.toNat
    · exact he'.trans hf ▸ .txLast ok htxw hi hfit
    · exact he'.trans hf ▸ .txOver ok htxw hover
  · exact he ▸ .txPace ok htxw hmore hmode
  · exact he ▸ .txGoOn ok htxw hmore

/-- Every effect of a request word is one of the outcomes (R97). -/
theorem State.Effect.leaves {s t : State} {i : Instr} (h : s.Effect i t) : s.Leaves (some i) none t := by
  cases h with
  | unexpected hearly => exact .unexpected hearly
  | setBurst p => exact .setBurst p
  | setContinuous => exact .setContinuous
  | setPower b _ => exact .setPower b
  | downgrade hmode => exact .downgrade hmode
  | linkConnect => exact .linkConnect
  | linkDisconnect => exact .linkDisconnect
  | subscribeData en => exact .subscribeData en
  | subscribeHeartbeat en => exact .subscribeHeartbeat en
  | linkUnit n => exact .linkUnit n
  | sensorOk x y z hwait => exact State.leaves_acceptSample x y z hwait
  | sensorErr hwait => exact .sensorErr hwait
  | txOk htxw => exact State.leaves_afterAttempt true htxw
  | txFail htxw => exact State.leaves_afterAttempt false htxw
  | tick => exact s.leaves_tick
  | paceDone hpace => exact .paceDone hpace

theorem leaves_of_exec {i : Instr} {s t : State} (h : exec i s = .next t) : s.Leaves (some i) none t := by
  obtain ⟨c, d, rfl⟩ | ⟨-, heffect⟩ := requested_of_exec h
  · exact .answer c d
  · exact heffect.leaves

/-- Every effect of an internal step that is enabled is one of the outcomes (R98). -/
theorem State.leaves_internalEffect {s : State} {u : InternalStep} (henabled : s.enabled u = true) :
    s.Leaves none (some u) (s.internalEffect u) := by
  cases u with
  | producerFetch => exact .fetch
  | burstWake =>
    obtain ⟨-, hidle, hpend⟩ := s.wakeEnabled_iff.1 henabled
    rw [State.internalEffect]
    obtain ⟨hlink, he⟩ | ⟨hlink, hunit, he⟩ | ⟨-, -, -, he⟩ | ⟨hlink, -, hsome, he⟩ := s.burstWake_cases
    · exact he ▸ .wakeNotReady hidle hpend hlink
    · exact he ▸ .wakeUnitSkip hidle hpend hlink hunit
    · exact he ▸ .wakeNoPacket hidle hpend
    · exact he ▸ .wakeStart hidle hpend hlink hsome
  | burstPacket =>
    obtain ⟨-, hpkt⟩ := s.packetEnabled_iff.1 henabled
    rw [State.internalEffect]
    obtain ⟨hconn, he⟩ | ⟨hconn, he⟩ := s.burstPacket_cases
    · exact he ▸ .send hpkt hconn
    · obtain ⟨hfit, hf⟩ | ⟨hover, hf⟩ := s.finish_cases true s.pktI.toNat
      · rw [he, hf]; exact .abort hpkt hconn hfit
      · rw [he, hf]; exact .abortOver hpkt hover

/-! ## The step -/

theorem State.nextInternal_eq_none {s : State} {w : Word64} {n : U16} {r : List Stimulus}
    (hsched : s.schedule = .request w n :: r) : s.nextInternal = none := by
  simp [State.nextInternal, hsched]

theorem State.nextInstr_eq_none {s : State} {u : InternalStep} {n : U16} {r : List Stimulus}
    (hsched : s.schedule = .internal u n :: r) : s.nextInstr = none := by
  simp [State.nextInstr, State.nextWord, hsched]

/-- A step is `rst`, or it leaves one of the outcomes on the state whose step has begun. -/
theorem step_leaves {s t : State} (h : step s = .next t) :
    (s.schedule.head? = some .reset ∧ ∃ r, t = (s.beginStep s.timeNow r).assertReset) ∨
    ∃ now rest, (s.beginStep now rest).Leaves s.nextInstr s.nextInternal t := by
  obtain ⟨-, rfl⟩ | ⟨w, n, r, hsched, hreq⟩ | ⟨u, n, r, hsched, hint⟩ | ⟨r, hsched, rfl⟩ := step_cases h
  · exact .inr ⟨_, _, .still⟩
  · refine .inr ⟨n, r, ?_⟩
    rw [State.nextInternal_eq_none hsched]
    obtain ⟨i, hdecode, hexec⟩ | ⟨e, -, rfl⟩ := handleRequest_cases hreq
    · exact State.nextInstr_of_schedule hsched hdecode ▸ leaves_of_exec hexec
    · exact .answer _ _
  · refine .inr ⟨n, r, ?_⟩
    rw [State.nextInstr_eq_none hsched]
    obtain ⟨henabled, rfl⟩ | ⟨-, rfl⟩ := runInternal_cases hint
    · have hnext := State.nextInternal_of_schedule hsched (s.beginStep_enabled n r u ▸ henabled)
      exact hnext ▸ State.leaves_internalEffect henabled
    · exact .still
  · exact .inl ⟨congrArg List.head? hsched, r, rfl⟩

theorem step_leaves_of_noReset {s t : State} (hnoReset : s.noReset) (h : step s = .next t) :
    ∃ now rest, (s.beginStep now rest).Leaves s.nextInstr s.nextInternal t := by
  obtain ⟨hreset, -⟩ | hleaves := step_leaves h
  · exact absurd hreset hnoReset
  · exact hleaves

end Sys2Proof.Machine
end

section
/-! SUPPORT. The invariant of every step boundary (R109 to R111, R130, R162 to R165), part by part over the outcomes of a
step, and what follows for the fatal state and for unread samples (R68, R69, R163 to R165). -/

namespace Sys2Proof.Machine

section
variable {s t : State} {req : Option Instr} {int : Option InternalStep}

/-! ## The cursors and the slots -/

/-- Only a stored sample, a drain and the end of a burst move a cursor (R105 to R113). -/
theorem State.Leaves.cursorMove (h : s.Leaves req int t) : s.CursorMove t := by
  cases h with
  | store x y z _ hroom => exact .of_push hroom rfl rfl rfl
  | wakeNotReady | wakeUnitSkip => exact .of_drain rfl rfl rfl
  | abort _ _ hfit => exact .of_consume hfit rfl rfl rfl
  | txLast ok _ _ hfit => exact .of_consume hfit rfl rfl rfl
  | _ => exact .of_still rfl rfl rfl

theorem State.Leaves.cfg (h : s.Leaves req int t) : t.cfg = s.cfg := by
  obtain ⟨hcfg, -⟩ := h.cursorMove
  exact hcfg

/-- The reset count, on which the free values of unwritten bytes depend, is moved by `rst` only (assumption 7). -/
theorem State.Leaves.epoch (h : s.Leaves req int t) : t.epoch = s.epoch := by
  cases h with
  | _ => rfl

/-- Memory is left alone, or a sample is stored in the slot at `WC`, which there is room for (R67, R107). -/
theorem State.Leaves.mem_cases (h : s.Leaves req int t) :
    t.mem = s.mem ∨ (s.occ.toNat < s.cfg.cap ∧ ∃ r, t.mem = (s.slotWrite (Config.index s.cfg s.wc) r).mem) := by
  cases h with
  | store x y z _ hroom => exact .inr ⟨hroom, s.sampleOf x y z, rfl⟩
  | _ => exact .inl rfl

/-- A stored sample is written inside its slot, so memory keeps its canonical form and its bounds (R65, R107). -/
theorem State.MemOk.slotWrite (hmem : s.MemOk) (c : U32) (r : Sample) :
    (s.slotWrite (Config.index s.cfg c) r).MemOk := by
  obtain ⟨hwf, hbound⟩ := hmem
  refine ⟨Memory.writeBytes_wf hwf _ _, fun cell hcell => ?_⟩
  obtain ⟨-, hlt⟩ | hold := Memory.mem_writeBytes hcell
  · have hslot := Config.index_lt s.cfg c
    rw [Sample.bytes_length, slotAddr] at hlt
    show cell.1 < 10 * s.cfg.cap
    omega
  · exact hbound cell hold

theorem State.Leaves.memOk (h : s.Leaves req int t) (hmem : s.MemOk) : t.MemOk := by
  cases h with
  | store x y z => exact hmem.slotWrite s.wc (s.sampleOf x y z)
  | _ => exact hmem

theorem State.resetOf_memOk (c : Config) : (State.resetOf c).MemOk := ⟨List.Pairwise.nil, nofun⟩

/-- Settles O34: a step other than `rst` leaves memory alone or stores one sample, and `rst` forgets every byte. -/
theorem everyStepKeepsTheMemoryCanonical : Obligations.EveryStepKeepsTheMemoryCanonical := by
  intro s t hmem hstep
  obtain ⟨-, r, rfl⟩ | ⟨now, rest, hleaves⟩ := step_leaves hstep
  · exact State.resetOf_memOk s.cfg
  · exact hleaves.memOk hmem

/-! ## Live samples -/

/-- No written byte becomes unwritten but by `rst`. -/
theorem State.Leaves.isSome_read? (h : s.Leaves req int t) {a : Nat} (ha : (s.mem.read? a).isSome = true) :
    (t.mem.read? a).isSome = true := by
  obtain hmem | ⟨-, r, hmem⟩ := h.mem_cases
  · rw [hmem, ha]
  · rw [hmem, State.slotWrite_mem, Memory.read?_writeBytes]
    split
    · next hin => rw [List.getElem?_eq_getElem (by omega), Option.isSome_some]
    · exact ha

theorem ne_add_one (c : U32) : c ≠ c + 1 := by simp

/-- A push writes every byte of its slot (R76, R107). -/
theorem State.Leaves.isSome_read?_of_push (h : s.Leaves req int t) (hpush : t.wc = s.wc + 1) {k : Nat} (hk : k < 10) :
    (t.mem.read? (slotAddr (Config.index s.cfg s.wc) + k)).isSome = true := by
  cases h with
  | store x y z =>
    show ((s.mem.writeBytes _ (s.sampleOf x y z).bytes).read? _).isSome = true
    rw [Memory.read?_writeBytes, if_pos ⟨Nat.le_add_right _ _, Nat.add_lt_add_left hk _⟩, Nat.add_sub_cancel_left]
    rw [List.getElem?_eq_getElem hk, Option.isSome_some]
  | _ => exact absurd hpush (ne_add_one s.wc)

/-- A sample that is live after a move of the cursors was live before it, or has just been pushed (R107, R111). -/
theorem State.CursorMove.live_or_pushed (h : s.CursorMove t) {c : U32} (hlive : t.live c = true) :
    s.live c = true ∨ (t.wc = s.wc + 1 ∧ c = s.wc) := by
  obtain ⟨-, ⟨hwc, hrc⟩ | ⟨hroom, hwc, hrc⟩ | ⟨k, hk, hwc, hrc⟩⟩ := h
  all_goals rw [State.live, decide_eq_true_eq, State.occ, hwc, hrc] at hlive
  all_goals rw [State.live, decide_eq_true_eq, State.occ]
  · exact .inl hlive
  · rw [occ_after_push _ _ (Nat.lt_of_lt_of_le hroom (Config.cap_le s.cfg))] at hlive
    obtain hlt | heq := Nat.lt_succ_iff_lt_or_eq.1 hlive
    · exact .inl hlt
    · have hc : c - s.rc = s.wc - s.rc := BitVec.eq_of_toNat_eq heq
      exact .inr ⟨hwc, (BitVec.sub_left_inj s.rc).1 hc⟩
  · rw [occ_after_consume _ _ hk] at hlive
    rw [State.occ] at hk
    have hlt : k < 2 ^ 32 := Nat.lt_of_le_of_lt hk (s.wc - s.rc).isLt
    exact .inl (by bv_omega)

theorem State.Leaves.liveWritten (h : s.Leaves req int t) (hlive : s.LiveWritten) : t.LiveWritten := by
  intro c hc k hk
  rw [h.cfg]
  obtain hold | ⟨hpush, rfl⟩ := h.cursorMove.live_or_pushed hc
  · exact h.isSome_read? (hlive c hold k hk)
  · exact h.isSome_read?_of_push hpush hk

/-! ## The burst position -/

/-- A stored sample is one more in the buffer, far from the wrap of OCC (R105, R107). -/
theorem State.occ_stored (hroom : s.occ.toNat < s.cfg.cap) (x y z : U16) :
    (s.stored x y z).occ.toNat = s.occ.toNat + 1 :=
  occ_after_push s.wc s.rc (Nat.lt_of_lt_of_le hroom (Config.cap_le s.cfg))

/-- The position after an attempt that is not the last still has a packet left (R134). -/
theorem pktI_add_one_lt {i n : U16} (hlt : i.toNat < n.toNat) (hmore : i + 1 ≠ n) : (i + 1).toNat < n.toNat := by
  bv_omega

/-- The position of a burst that has just started: its packets are whole ones in the buffer (R130). -/
theorem State.packetCount_position (hsome : s.packetCount ≠ 0) :
    (0 : U16).toNat < (BitVec.ofNat 16 s.packetCount).toNat ∧
    (BitVec.ofNat 16 s.packetCount).toNat ≤ s.cfg.maxp ∧
    (BitVec.ofNat 16 s.packetCount).toNat * s.cfg.spp ≤ s.occ.toNat := by
  obtain ⟨hwidth, hmax, hfit⟩ := s.packetCount_le
  have hn : (BitVec.ofNat 16 s.packetCount).toNat = s.packetCount := by
    rw [BitVec.toNat_ofNat, Nat.mod_eq_of_lt (Nat.lt_succ_of_le hwidth)]
  rw [hn]
  exact ⟨Nat.pos_of_ne_zero hsome, hmax, hfit⟩

theorem State.Leaves.burstOk (h : s.Leaves req int t) (hburst : s.BurstOk) : t.BurstOk := by
  cases h with
  | wakeNotReady hidle | wakeUnitSkip hidle | wakeNoPacket hidle => exact fun hbusy => absurd hidle hbusy
  | wakeStart _ _ _ hsome => exact fun _ => State.packetCount_position hsome
  | abort | txLast => exact fun hbusy => absurd rfl hbusy
  | send hpkt => exact fun _ => hburst (hpkt.trans_ne nofun)
  | paceDone hpace => exact fun _ => hburst (hpace.trans_ne nofun)
  | txPace ok htxw hmore | txGoOn ok htxw hmore =>
    obtain ⟨hleft, hmax, hfit⟩ := hburst (htxw.trans_ne nofun)
    exact fun _ => ⟨pktI_add_one_lt hleft hmore, hmax, hfit⟩
  | store x y z _ hroom =>
    intro hbusy
    obtain ⟨hleft, hmax, hfit⟩ := hburst hbusy
    exact ⟨hleft, hmax, hfit.trans ((Nat.le_succ _).trans (State.occ_stored hroom x y z).ge)⟩
  | _ => exact fun hbusy => hburst hbusy

/-! ## The burst-ready wake -/

/-- The one wake that may be posted is the one taken (R127, R164). -/
theorem State.SignalOk.burstPend_sub_one (hsignal : s.SignalOk) : s.burstPend ≠ 0 → s.burstPend - 1 = 0 := by
  obtain ⟨hone, -⟩ := hsignal
  intro hpend
  bv_omega

/-- No wake is posted during a burst (R164). -/
theorem State.SignalOk.burstPend_eq_zero (hsignal : s.SignalOk) (hbusy : s.bstate ≠ .idle) : s.burstPend = 0 := by
  obtain ⟨-, hposted, -⟩ := hsignal
  by_contra hpend
  exact hbusy (hposted hpend).1

/-- With no wake posted, the signal's part says only that a burst runs on THRESH samples at least. -/
theorem State.SignalOk.of_not_posted (hpend : s.burstPend = 0)
    (hthresh : s.bstate ≠ .idle → s.cfg.thresh ≤ s.occ.toNat) : s.SignalOk :=
  ⟨hpend ▸ Nat.zero_le 1, fun hposted => absurd hpend hposted, hthresh⟩

/-- A wake is posted exactly on the push that reaches THRESH, which no wake posted before it and no burst outlasts
(R122, R164). -/
theorem State.SignalOk.stored (hsignal : s.SignalOk) (hroom : s.occ.toNat < s.cfg.cap) (x y z : U16) :
    (s.stored x y z).SignalOk := by
  have hocc := State.occ_stored hroom x y z
  obtain ⟨hone, hposted, hrunning⟩ := hsignal
  by_cases hedge : s.occ.toNat + 1 = s.cfg.thresh
  · have hidle : s.bstate = .idle := by
      by_contra hbusy
      exact absurd (hrunning hbusy) (by omega)
    have hnone : s.burstPend = 0 := by
      by_contra hpend
      exact absurd (hposted hpend).2 (by omega)
    have hpend : (s.stored x y z).burstPend = 1 := by rw [State.stored, if_pos hedge, hnone]; rfl
    have hthresh : s.cfg.thresh ≤ (s.stored x y z).occ.toNat := by rw [hocc, hedge]
    exact ⟨hpend ▸ Nat.le_refl 1, fun _ => ⟨hidle, hthresh⟩, fun _ => hthresh⟩
  · have hpend : (s.stored x y z).burstPend = s.burstPend := if_neg hedge
    have hmore : s.occ.toNat ≤ (s.stored x y z).occ.toNat := by omega
    rw [State.SignalOk, hpend]
    exact ⟨hone, fun hp => (hposted hp).imp_right (·.trans hmore), fun hbusy => (hrunning hbusy).trans hmore⟩

theorem State.Leaves.signalOk (h : s.Leaves req int t) (hsignal : s.SignalOk) : t.SignalOk := by
  have ⟨hone, hposted, hrunning⟩ := hsignal
  cases h with
  | store x y z _ hroom => exact (hsignal.stored hroom x y z :)
  | wakeNotReady hidle hpend | wakeUnitSkip hidle hpend | wakeNoPacket hidle hpend =>
    exact .of_not_posted (hsignal.burstPend_sub_one hpend) fun hbusy => absurd hidle hbusy
  | wakeStart _ hpend => exact .of_not_posted (hsignal.burstPend_sub_one hpend) fun _ => (hposted hpend).2
  | abort hbusy | txLast ok hbusy =>
    exact .of_not_posted (hsignal.burstPend_eq_zero (hbusy.trans_ne nofun)) fun hbusy => absurd rfl hbusy
  | send hbusy | paceDone hbusy | txPace ok hbusy | txGoOn ok hbusy =>
    exact .of_not_posted (hsignal.burstPend_eq_zero (hbusy.trans_ne nofun)) fun _ => hrunning (hbusy.trans_ne nofun)
  | _ => exact ⟨hone, hposted, hrunning⟩

/-! ## The fatal state -/

/-- Of the three causes only TICK_OVERFLOW can be raised where the invariant holds: the occupancy is at most `CAP`, at
most one wake is posted, and a burst's packets are in the buffer (R163 to R165). -/
theorem State.Leaves.fatal_cases (h : s.Leaves req int t) (hinv : s.Inv) :
    (t.fatal = s.fatal ∧ t.faultCause = s.faultCause) ∨
    (req = some .tick ∧ s.tickPend = 0xFFFF ∧ t = s.halt .tickOverflow) := by
  cases h with
  | tickOverflow hfull => exact .inr ⟨rfl, hfull, rfl⟩
  | sampleOver x y z hover => exact absurd hinv.occ (Nat.not_le.2 hover)
  | signalOverflow x y z hfull => exact absurd hinv.signal.1 (by rw [hfull]; decide)
  | abortOver hpkt hover =>
    obtain ⟨hleft, -, hfit⟩ := hinv.burst (hpkt.trans_ne nofun)
    exact absurd ((Nat.mul_le_mul_right _ hleft.le).trans hfit) (Nat.not_le.2 hover)
  | txOver ok htxw hover =>
    obtain ⟨-, -, hfit⟩ := hinv.burst (htxw.trans_ne nofun)
    exact absurd hfit (Nat.not_le.2 hover)
  | _ => exact .inl ⟨rfl, rfl⟩

theorem State.Leaves.faultOk (h : s.Leaves req int t) (hinv : s.Inv) : t.FaultOk := by
  obtain ⟨hfatal, hcause⟩ | ⟨-, -, rfl⟩ := h.fatal_cases hinv
  · rw [State.FaultOk, hfatal, hcause]
    exact hinv.fault
  · exact ⟨nofun, fun _ => rfl⟩

/-! ## The invariant -/

theorem State.Leaves.inv (h : s.Leaves req int t) (hinv : s.Inv) : t.Inv where
  occ := h.cursorMove.occOk hinv.occ
  mem := h.memOk hinv.mem
  live := h.liveWritten hinv.live
  burst := h.burstOk hinv.burst
  signal := h.signalOk hinv.signal
  fault := h.faultOk hinv

end

/-- The invariant speaks of neither the ports nor the schedule. -/
theorem State.Inv.beginStep {s : State} (hinv : s.Inv) (now : U16) (rest : List Stimulus) :
    (s.beginStep now rest).Inv := ⟨hinv.occ, hinv.mem, hinv.live, hinv.burst, hinv.signal, hinv.fault⟩

theorem State.resetOf_live (c : Config) (x : U32) : (State.resetOf c).live x = false := by
  have hempty : (State.resetOf c).occ = 0 := BitVec.sub_self 0
  rw [State.live, hempty]
  exact decide_eq_false (Nat.not_lt_zero _)

/-- Settles O32: after reset the buffer is empty and no burst runs, no wake is posted and the block is not fatal. -/
theorem resetMeetsTheInvariant : Obligations.ResetMeetsTheInvariant := fun c =>
  { occ := State.resetOf_occOk c
    mem := State.resetOf_memOk c
    live := fun x hlive => absurd hlive (Bool.eq_false_iff.1 (State.resetOf_live c x))
    burst := fun hbusy => absurd rfl hbusy
    signal := .of_not_posted rfl fun hbusy => absurd rfl hbusy
    fault := ⟨fun _ => rfl, nofun⟩ }

/-- Settles O31: each part is kept by every outcome of a step, and `rst` puts a reset state, whose ports and schedule
the invariant does not speak of. -/
theorem everyStepKeepsTheInvariant : Obligations.EveryStepKeepsTheInvariant := by
  intro s t hinv hstep
  obtain ⟨-, r, rfl⟩ | ⟨now, rest, hleaves⟩ := step_leaves hstep
  · obtain ⟨hocc, hmem, hlive, hburst, hsignal, hfault⟩ := resetMeetsTheInvariant s.cfg
    exact ⟨hocc, hmem, hlive, hburst, hsignal, hfault⟩
  · exact hleaves.inv (hinv.beginStep now rest)

/-- Settles O35: no other cause can be raised where the invariant holds, and the fault is precise. -/
theorem onlyTickOverflowIsReachable : Obligations.OnlyTickOverflowIsReachable := by
  intro s t hinv hrun hstep hfatal
  obtain ⟨-, r, rfl⟩ | ⟨now, rest, hleaves⟩ := step_leaves hstep
  · cases hfatal
  · obtain ⟨hkept, -⟩ | ⟨hreq, hfull, rfl⟩ := hleaves.fatal_cases (hinv.beginStep now rest)
    · exact absurd (hkept.symm.trans hfatal) (hrun.trans_ne nofun)
    · exact ⟨hreq, congrArg BitVec.toNat hfull, rfl⟩

/-! ## Unread samples -/

/-- The slot `n` samples further on, across the wrap of the cursor and of the slot array (R104). -/
theorem Config.index_add_ofNat (c : Config) (x : U32) (n : Nat) :
    Config.index c (x + BitVec.ofNat 32 n) = (x.toNat + n) % 2 ^ c.capLog := by
  have hdvd : 2 ^ c.capLog ∣ 2 ^ 32 := Nat.pow_dvd_pow 2 (Nat.le_succ_of_le c.capLog_le)
  rw [Config.index_eq_mod, BitVec.toNat_add, BitVec.toNat_ofNat, Nat.add_mod_mod, Nat.mod_mod_of_dvd _ hdvd]

/-- The slot of an unread sample is not the one at `WC` while the buffer has room: they are less than `CAP` apart
(R68, R69, R104). -/
theorem Config.index_ne_of_live {s : State} (hroom : s.occ.toNat < s.cfg.cap) {c : U32}
    (hlive : (c - s.rc).toNat < s.occ.toNat) : Config.index s.cfg c ≠ Config.index s.cfg s.wc := by
  intro hsame
  rw [State.occ] at hroom hlive
  have hdist : (s.wc - c).toNat = (s.wc - s.rc).toNat - (c - s.rc).toNat := by bv_omega
  have hwc : s.wc = c + BitVec.ofNat 32 (s.wc - c).toNat := by
    rw [BitVec.ofNat_toNat, BitVec.setWidth_eq, BitVec.add_comm, BitVec.sub_add_cancel]
  rw [hwc, Config.index_add_ofNat, Config.index_eq_mod] at hsame
  have hzero : (s.wc - c).toNat ≡ 0 [MOD 2 ^ s.cfg.capLog] := Nat.ModEq.add_left_cancel' c.toNat hsame.symm
  have hcap : (s.wc - c).toNat < 2 ^ s.cfg.capLog := by rw [Config.cap] at hroom; omega
  have heq := Nat.ModEq.eq_of_lt_of_lt hzero hcap (Nat.two_pow_pos _)
  omega

/-- Every outcome keeps the record of a sample that is unread before it: only a push writes a slot, and it writes the
slot at `WC` (R68, R107). -/
theorem State.Leaves.slotRead_of_live {s t : State} {req : Option Instr} {int : Option InternalStep}
    (h : s.Leaves req int t) {c : U32} (hlive : (c - s.rc).toNat < s.occ.toNat) :
    t.slotRead (Config.index s.cfg c) = s.slotRead (Config.index s.cfg c) := by
  obtain hmem | ⟨hroom, r, hmem⟩ := h.mem_cases
  · exact State.slotRead_congr hmem h.epoch _
  · have hwrite := State.slotRead_congr (s := s.slotWrite (Config.index s.cfg s.wc) r) hmem h.epoch
    rw [hwrite, s.slotRead_slotWrite_other r (Config.index_ne_of_live hroom hlive)]

/-- Settles O36: of the steps only a push writes a slot, and after `rst` no sample is unread. -/
theorem unreadSamplesAreNeverOverwritten : Obligations.UnreadSamplesAreNeverOverwritten := by
  intro s t c _ hstep hlive hlive'
  obtain ⟨-, r, rfl⟩ | ⟨now, rest, hleaves⟩ := step_leaves hstep
  · have hdead := State.resetOf_live s.cfg c
    exact absurd hlive' (of_decide_eq_false hdead)
  · have hkept := hleaves.slotRead_of_live hlive
    have hcfg : t.cfg = s.cfg := hleaves.cfg
    rw [Config.index_eq_mod] at hkept
    rw [hcfg]
    exact hkept

end Sys2Proof.Machine
end

section
/-! SUPPORT. Who writes what: the writers of each field over the outcomes of a step (R24 to R57, R67, R99, R140, R148,
R154, R177). -/

namespace Sys2Proof.Machine

section
variable {s t : State} {req : Option Instr} {int : Option InternalStep}

/-! ## The write side -/

/-- Only SENSOR_OK writes WC, TOTAL_CNT and memory, all three where the buffer has room (R26, R67, R107, R121). -/
theorem State.Leaves.writeSide (h : s.Leaves req int t) :
    (t.wc = s.wc ∧ t.totalCnt = s.totalCnt ∧ t.mem = s.mem) ∨
    ((∃ x y z, req = some (.sensorOk x y z)) ∧ s.pstate = .wait ∧ s.occ.toNat < s.cfg.cap ∧ t.wc = s.wc + 1) := by
  cases h with
  | store x y z hwait hroom => exact .inr ⟨⟨x, y, z, rfl⟩, hwait, hroom, rfl⟩
  | _ => exact .inl ⟨rfl, rfl, rfl⟩

/-! ## The mode, the power latch and PROTO_ERR -/

theorem State.Leaves.mode_writers (h : s.Leaves req int t) (hne : t.mode ≠ s.mode) :
    (s.mode = .burst ∧ t.mode = .continuous ∧ req = some (.setMode 1 true)) ∨
    (s.mode = .continuous ∧ t.mode = .burst ∧
      ((∃ p, req = some (.setMode 0 p)) ∨ req = some (.setPower false))) := by
  cases h with
  | setBurst p =>
    cases hmode : s.mode with
    | burst => exact absurd hmode.symm hne
    | continuous => exact .inr ⟨rfl, rfl, .inl ⟨p, rfl⟩⟩
  | setContinuous =>
    cases hmode : s.mode with
    | burst => exact .inl ⟨rfl, rfl, rfl⟩
    | continuous => exact absurd hmode.symm hne
  | downgrade hmode => exact .inr ⟨hmode, rfl, .inr rfl⟩
  | _ => exact absurd rfl hne

theorem State.Leaves.pwr_writers (h : s.Leaves req int t) (hne : t.pwr ≠ s.pwr) : req = some (.setPower t.pwr) := by
  cases h with
  | setPower | downgrade => rfl
  | _ => exact absurd rfl hne

theorem State.Leaves.protoErr_cases (h : s.Leaves req int t) :
    t.protoErr = s.protoErr ∨ (t.protoErr = true ∧ ∃ i, req = some i ∧ s.mayArrive i = false) := by
  cases h with
  | unexpected hearly => exact .inr ⟨rfl, _, rfl, hearly⟩
  | _ => exact .inl rfl

/-! ## The link record -/

theorem State.Leaves.link_cases (h : s.Leaves req int t) :
    (t.conn = s.conn ∧ t.subData = s.subData ∧ t.subHb = s.subHb ∧ t.unit = s.unit) ∨
    req = some .linkConnect ∨ req = some .linkDisconnect ∨ (∃ sel en, req = some (.linkSubscribe sel en)) ∨
      ∃ n, req = some (.linkUnit n) := by
  cases h with
  | linkConnect => exact .inr (.inl rfl)
  | linkDisconnect => exact .inr (.inr (.inl rfl))
  | subscribeData en | subscribeHeartbeat en => exact .inr (.inr (.inr (.inl ⟨_, en, rfl⟩)))
  | linkUnit n => exact .inr (.inr (.inr (.inr ⟨n, rfl⟩)))
  | _ => exact .inl ⟨rfl, rfl, rfl, rfl⟩

/-! ## The trigger and the producer -/

theorem State.Leaves.tsSlot_writers (h : s.Leaves req int t) (hne : t.tsSlot ≠ s.tsSlot) : req = some .tick := by
  cases h with
  | tick => rfl
  | _ => exact absurd rfl hne

theorem State.Leaves.tickPend_writers (h : s.Leaves req int t) (hne : t.tickPend ≠ s.tickPend) :
    req = some .tick ∨ int = some .producerFetch := by
  cases h with
  | tick => exact .inl rfl
  | fetch => exact .inr rfl
  | _ => exact absurd rfl hne

theorem State.Leaves.tsSnap_writers (h : s.Leaves req int t) (hne : t.tsSnap ≠ s.tsSnap) :
    int = some .producerFetch := by
  cases h with
  | fetch => rfl
  | _ => exact absurd rfl hne

theorem State.Leaves.seq_writers (h : s.Leaves req int t) (hne : t.seq ≠ s.seq) :
    t.seq = s.seq + 1 ∧ ∃ x y z, req = some (.sensorOk x y z) := by
  cases h with
  | store x y z | drop x y z => exact ⟨rfl, x, y, z, rfl⟩
  | _ => exact absurd rfl hne

theorem State.Leaves.pstate_writers (h : s.Leaves req int t) (hne : t.pstate ≠ s.pstate) :
    int = some .producerFetch ∨ req = some .sensorErr ∨ ∃ x y z, req = some (.sensorOk x y z) := by
  cases h with
  | fetch => exact .inl rfl
  | sensorErr => exact .inr (.inl rfl)
  | store x y z | drop x y z => exact .inr (.inr ⟨x, y, z, rfl⟩)
  | _ => exact absurd rfl hne

/-! ## The statistics counters -/

theorem State.Leaves.overflowCnt_writers (h : s.Leaves req int t) (hne : t.overflowCnt ≠ s.overflowCnt) :
    (∃ x y z, req = some (.sensorOk x y z)) ∧ s.pstate = .wait ∧ s.occ.toNat = s.cfg.cap := by
  cases h with
  | drop x y z hwait hfull => exact ⟨⟨x, y, z, rfl⟩, hwait, hfull⟩
  | _ => exact absurd rfl hne

theorem State.Leaves.readFailCnt_writers (h : s.Leaves req int t) (hne : t.readFailCnt ≠ s.readFailCnt) :
    req = some .sensorErr ∧ s.pstate = .wait := by
  cases h with
  | sensorErr hwait => exact ⟨rfl, hwait⟩
  | _ => exact absurd rfl hne

theorem State.Leaves.drainDropCnt_writers (h : s.Leaves req int t) (hne : t.drainDropCnt ≠ s.drainDropCnt) :
    int = some .burstWake ∧ (s.linkReady = false ∨ s.unitReady = false) := by
  cases h with
  | wakeNotReady _ _ hlink => exact ⟨rfl, .inl hlink⟩
  | wakeUnitSkip _ _ _ hunit => exact ⟨rfl, .inr hunit⟩
  | _ => exact absurd rfl hne

theorem State.Leaves.notReadyCnt_writers (h : s.Leaves req int t) (hne : t.notReadyCnt ≠ s.notReadyCnt) :
    int = some .burstWake ∧ s.linkReady = false := by
  cases h with
  | wakeNotReady _ _ hlink => exact ⟨rfl, hlink⟩
  | _ => exact absurd rfl hne

theorem State.Leaves.unitSkipCnt_writers (h : s.Leaves req int t) (hne : t.unitSkipCnt ≠ s.unitSkipCnt) :
    int = some .burstWake ∧ s.linkReady = true ∧ s.unitReady = false := by
  cases h with
  | wakeUnitSkip _ _ hlink hunit => exact ⟨rfl, hlink, hunit⟩
  | _ => exact absurd rfl hne

theorem State.Leaves.txOkCnt_writers (h : s.Leaves req int t) (hne : t.txOkCnt ≠ s.txOkCnt) :
    req = some .txOk ∧ s.bstate = .txw := by
  cases h with
  | txLast ok htxw | txPace ok htxw | txGoOn ok htxw =>
    cases ok with
    | true => exact ⟨rfl, htxw⟩
    | false => exact absurd rfl hne
  | _ => exact absurd rfl hne

theorem State.Leaves.txFailCnt_writers (h : s.Leaves req int t) (hne : t.txFailCnt ≠ s.txFailCnt) :
    req = some .txFail ∧ s.bstate = .txw := by
  cases h with
  | txLast ok htxw | txPace ok htxw | txGoOn ok htxw =>
    cases ok with
    | true => exact absurd rfl hne
    | false => exact ⟨rfl, htxw⟩
  | _ => exact absurd rfl hne

theorem State.Leaves.abortCnt_writers (h : s.Leaves req int t) (hne : t.abortCnt ≠ s.abortCnt) :
    int = some .burstPacket ∧ s.conn = false := by
  cases h with
  | abort _ hconn => exact ⟨rfl, hconn⟩
  | _ => exact absurd rfl hne

/-! ## The read cursor -/

theorem txResult_eq_or (ok : Bool) : txResult ok = .txOk ∨ txResult ok = .txFail := by
  cases ok
  · exact .inr rfl
  · exact .inl rfl

theorem some_txResult_eq_or (ok : Bool) : some (txResult ok) = some .txOk ∨ some (txResult ok) = some .txFail :=
  (txResult_eq_or ok).imp (congrArg some) (congrArg some)

/-- The distance of a cursor moved on by no more than the occupancy (R18, R112). -/
theorem toNat_add_ofNat_sub (rc : U32) {occ : U32} {k : Nat} (hk : k ≤ occ.toNat) :
    (rc + BitVec.ofNat 32 k - rc).toNat = k := by
  rw [BitVec.add_comm, BitVec.add_sub_cancel, BitVec.toNat_ofNat, Nat.mod_eq_of_lt (Nat.lt_of_le_of_lt hk occ.isLt)]

/-- RC is drained up to WC, or moves on by the whole packets of a burst that ends (R27, R106, R113, R137). -/
theorem State.Leaves.rc_writers (h : s.Leaves req int t) (hne : t.rc ≠ s.rc) :
    (int = some .burstWake ∧ t.rc = s.wc) ∨
    ((int = some .burstPacket ∨ req = some .txOk ∨ req = some .txFail) ∧
      ∃ i, i * s.cfg.spp ≤ s.occ.toNat ∧ t.rc = s.rc + BitVec.ofNat 32 (i * s.cfg.spp)) := by
  cases h with
  | wakeNotReady | wakeUnitSkip => exact .inl ⟨rfl, rfl⟩
  | abort _ _ hfit => exact .inr ⟨.inl rfl, _, hfit, rfl⟩
  | txLast ok _ _ hfit => exact .inr ⟨.inr (some_txResult_eq_or ok), _, hfit, rfl⟩
  | _ => exact absurd rfl hne

/-! ## The burst controller's frame -/

/-- What a step of the burst controller leaves alone: memory, the reset count, and of the block every field that R140
does not give it (R177). -/
def State.BurstFrame (s t : State) : Prop :=
  t.arch = { s.arch with rc := t.rc, burstPend := t.burstPend, bstate := t.bstate, pktI := t.pktI, pktN := t.pktN,
                         burstId := t.burstId, wstart := t.wstart, drainDropCnt := t.drainDropCnt,
                         notReadyCnt := t.notReadyCnt, unitSkipCnt := t.unitSkipCnt, txOkCnt := t.txOkCnt,
                         txFailCnt := t.txFailCnt, abortCnt := t.abortCnt, protoErr := t.protoErr,
                         fatal := t.fatal, faultCause := t.faultCause }

theorem State.Leaves.burstFrame (h : s.Leaves req int t)
    (hburst : int = some .burstWake ∨ int = some .burstPacket ∨ (req = some .txOk ∨ req = some .txFail) ∨
      req = some .paceDone) : s.BurstFrame t := by
  cases h with
  | setBurst | setContinuous | setPower | downgrade | linkConnect | linkDisconnect | subscribeData | subscribeHeartbeat
  | linkUnit | tick | fetch | sensorErr | drop | store => simp at hburst
  | _ => rfl

/-! ## Outputs -/

/-- Each output transaction comes with one outcome (R99). -/
theorem State.Leaves.out_cases (h : s.Leaves req int t) {o : Output} (hnone : s.out = none) (hout : t.out = some o) :
    (o = .sensorReq ∧ int = some .producerFetch ∧ t.pstate = .wait) ∨
    (o = .txReq (s.buildPacket s.packetBase s.burstId) ∧ int = some .burstPacket ∧ s.conn = true ∧ t.bstate = .txw) ∨
    (o = .paceReq ∧ (req = some .txOk ∨ req = some .txFail) ∧ s.mode = .burst ∧ s.pktI + 1 ≠ s.pktN ∧
      t.bstate = .pace) := by
  cases h with
  | fetch => exact .inl ⟨(Option.some.inj hout).symm, rfl, rfl⟩
  | send _ hconn => exact .inr (.inl ⟨(Option.some.inj hout).symm, rfl, hconn, rfl⟩)
  | txPace ok _ hmore hmode =>
    exact .inr (.inr ⟨(Option.some.inj hout).symm, some_txResult_eq_or ok, hmode, hmore, rfl⟩)
  | _ => exact absurd (hnone.symm.trans hout) nofun

/-! ## The threshold-edge stall -/

/-- A stalled controller takes no step of its own, and a push beyond THRESH posts no wake (R122, R185). -/
theorem State.Leaves.stalled (h : s.Leaves req int t) (hstall : s.Stalled) : t.Stalled ∧ t.rc = s.rc := by
  have ⟨hidle, hnone, hthresh⟩ := hstall
  cases h with
  | store x y z _ hroom =>
    have hocc := State.occ_stored hroom x y z
    have hpend : (s.stored x y z).burstPend = s.burstPend := if_neg (by omega)
    have hkept : s.cfg.thresh ≤ (s.stored x y z).occ.toNat := by omega
    exact ⟨⟨hidle, hpend.trans hnone, hkept⟩, rfl⟩
  | wakeNotReady _ hpend | wakeUnitSkip _ hpend | wakeNoPacket _ hpend | wakeStart _ hpend =>
    exact absurd hnone hpend
  | send hbusy | abort hbusy | txLast ok hbusy | txPace ok hbusy | txGoOn ok hbusy | paceDone hbusy =>
    exact absurd (hidle.symm.trans hbusy) nofun
  | _ => exact ⟨hstall, rfl⟩

end

/-! ## Rules about the whole machine -/

/-- Settles O40: no outcome of a step changes the configuration, and `rst` keeps it. -/
theorem noStepChangesTheConfiguration : Obligations.NoStepChangesTheConfiguration := by
  intro s t hstep
  obtain ⟨-, r, rfl⟩ | ⟨now, rest, hleaves⟩ := step_leaves hstep
  · rfl
  · exact hleaves.cfg

/-- Settles O41: a change of any of the three is a sample stored. -/
theorem onlySensorOkWritesTheWriteSide : Obligations.OnlySensorOkWritesTheWriteSide := by
  intro s t hnoReset hstep hne
  obtain ⟨now, rest, hleaves⟩ := step_leaves_of_noReset hnoReset hstep
  obtain ⟨hwc, htotal, hmem⟩ | ⟨hreq, -, -, hpush⟩ := hleaves.writeSide
  · obtain hwc' | htotal' | ⟨a, ha⟩ := hne
    · exact absurd hwc hwc'
    · exact absurd htotal htotal'
    · exact absurd (congrArg (Memory.read? · a) hmem) ha
  · exact ⟨hreq, hpush⟩

/-- Settles O42: a drain goes up to WC, which is the occupancy away, and a burst that ends moves by whole packets that
are in the buffer. -/
theorem onlyTheBurstControllerMovesTheReadCursor : Obligations.OnlyTheBurstControllerMovesTheReadCursor := by
  intro s t hnoReset hstep hne
  obtain ⟨now, rest, hleaves⟩ := step_leaves_of_noReset hnoReset hstep
  obtain ⟨hint, hrc⟩ | ⟨hcause, i, hfit, hrc⟩ := hleaves.rc_writers hne
  · exact ⟨(congrArg (fun c => (c - s.rc).toNat) hrc).le, .inl ⟨hint, hrc⟩⟩
  · have hmove : (t.rc - s.rc).toNat = i * s.cfg.spp := hrc ▸ toNat_add_ofNat_sub s.rc hfit
    exact ⟨hmove ▸ hfit, .inr ⟨hcause, hmove ▸ Nat.dvd_mul_left s.cfg.spp i⟩⟩

/-- Settles O43, by the writers of MODE. -/
theorem modeChangesOnlyUnderThePermissionRule : Obligations.ModeChangesOnlyUnderThePermissionRule := by
  intro s t hnoReset hstep hne
  obtain ⟨now, rest, hleaves⟩ := step_leaves_of_noReset hnoReset hstep
  exact hleaves.mode_writers hne

/-- Settles O44: an outcome of no LINK word keeps all four. -/
theorem onlyLinkWordsWriteTheLinkRecord : Obligations.OnlyLinkWordsWriteTheLinkRecord := by
  intro s t hnoReset hstep hne
  obtain ⟨now, rest, hleaves⟩ := step_leaves_of_noReset hnoReset hstep
  obtain ⟨hconn, hdata, hhb, hunit⟩ | hreq := hleaves.link_cases
  · obtain hne | hne | hne | hne := hne
    · exact absurd hconn hne
    · exact absurd hdata hne
    · exact absurd hhb hne
    · exact absurd hunit hne
  · exact hreq

/-- Settles O45, counter by counter; the closed gates are those of R128 and R129. -/
theorem countersHaveTheirWritersOnly : Obligations.CountersHaveTheirWritersOnly := by
  intro s t hnoReset hstep
  obtain ⟨now, rest, hleaves⟩ := step_leaves_of_noReset hnoReset hstep
  refine ⟨fun hne => ?_, hleaves.overflowCnt_writers, hleaves.readFailCnt_writers, fun hne => ?_, fun hne => ?_,
    fun hne => ?_, hleaves.txOkCnt_writers, hleaves.txFailCnt_writers, hleaves.abortCnt_writers⟩
  · obtain ⟨-, htotal, -⟩ | ⟨hreq, hwait, hroom, -⟩ := hleaves.writeSide
    · exact absurd htotal hne
    · exact ⟨hreq, hwait, hroom⟩
  · obtain ⟨hint, hgate⟩ := hleaves.drainDropCnt_writers hne
    exact ⟨hint, hgate.imp (State.linkReady_eq_false_iff _).1 (State.unitReady_eq_false_iff _).1⟩
  · obtain ⟨hint, hlink⟩ := hleaves.notReadyCnt_writers hne
    exact ⟨hint, (State.linkReady_eq_false_iff _).1 hlink⟩
  · obtain ⟨hint, hlink, hunit⟩ := hleaves.unitSkipCnt_writers hne
    exact ⟨hint, State.not_or_of_linkReady hlink, (State.unitReady_eq_false_iff _).1 hunit⟩

/-- Settles O46, register by register. -/
theorem producerRegistersHaveTheirWritersOnly : Obligations.ProducerRegistersHaveTheirWritersOnly := by
  intro s t hnoReset hstep
  obtain ⟨now, rest, hleaves⟩ := step_leaves_of_noReset hnoReset hstep
  exact ⟨hleaves.tsSlot_writers, hleaves.tickPend_writers, hleaves.tsSnap_writers, hleaves.seq_writers,
    hleaves.pstate_writers⟩

/-- A step of the burst controller is not `rst`. -/
theorem State.noReset_of_nextIsBurstStep {s : State} (h : Spec.nextIsBurstStep s) : s.noReset := by
  intro hreset
  obtain ⟨rest, hsched⟩ : ∃ rest, s.schedule = .reset :: rest := by
    simpa [List.head?_eq_some_iff] using hreset
  simp [Spec.nextIsBurstStep, Spec.nextIsTxResult, State.nextInternal, State.nextInstr, State.nextWord, hsched] at h

/-- Settles O48: no outcome of those steps writes outside the frame, which has memory and the reset count in it. -/
theorem theBurstControllerLeavesTheProducerAlone : Obligations.TheBurstControllerLeavesTheProducerAlone := by
  intro s t hburst hstep
  obtain ⟨now, rest, hleaves⟩ := step_leaves_of_noReset (State.noReset_of_nextIsBurstStep hburst) hstep
  have hframe : s.BurstFrame t := hleaves.burstFrame hburst
  have hmem : t.mem = s.mem := (congrArg State.mem hframe :)
  have hepoch : t.epoch = s.epoch := (congrArg State.epoch hframe :)
  exact ⟨hframe, State.slotByte_congr hmem hepoch⟩

/-- Settles O50, by the writers of PWR and of PROTO_ERR. -/
theorem powerLatchAndProtocolErrorWriters : Obligations.PowerLatchAndProtocolErrorWriters := by
  intro s t hnoReset hstep
  obtain ⟨now, rest, hleaves⟩ := step_leaves_of_noReset hnoReset hstep
  refine ⟨hleaves.pwr_writers, fun hset => ?_, fun hclear hset => ?_⟩
  · obtain hkept | ⟨hset', -⟩ := hleaves.protoErr_cases
    · exact hkept.trans hset
    · exact hset'
  · obtain hkept | ⟨-, hearly⟩ := hleaves.protoErr_cases
    · exact absurd (hset.symm.trans (hkept.trans hclear)) nofun
    · exact hearly

/-- The length of every packet (R12, R145). -/
theorem State.buildPacket_length (s : State) (base : U32) (id : Byte) :
    (s.buildPacket base id).length = 1 + 10 * s.cfg.spp + 2 := by
  rw [State.buildPacket_eq_frame, frame_length, State.bodyAt_length]

/-- Settles O51: a step begins with clear ports, so an output is one that its outcome emits. -/
theorem outputsComeFromTheirStepsOnly : Obligations.OutputsComeFromTheirStepsOnly := by
  intro s t o hstep hout
  obtain ⟨-, r, rfl⟩ | ⟨now, rest, hleaves⟩ := step_leaves hstep
  · cases hout
  · obtain hfetch | ⟨ho, hint, hconn, htxw⟩ | hpace := hleaves.out_cases rfl hout
    · exact .inl hfetch
    · exact .inr (.inl ⟨_, ho, State.buildPacket_length _ _ _, hint, hconn, htxw⟩)
    · exact .inr (.inr hpace)

/-- Settles O52: of the request words only SENSOR_OK has an outcome that writes one of these. -/
theorem otherRequestsLeaveTheSlotsAlone : Obligations.OtherRequestsLeaveTheSlotsAlone := by
  intro i s t hother hexec
  have hleaves := leaves_of_exec hexec
  have hnotSensor : ¬∃ x y z, some i = some (.sensorOk x y z) :=
    fun ⟨x, y, z, h⟩ => hother x y z (Option.some.inj h)
  obtain ⟨hwc, htotal, hmem⟩ | ⟨hreq, -⟩ := hleaves.writeSide
  · have hseq : t.seq = s.seq := not_not.1 fun hne => hnotSensor (hleaves.seq_writers hne).2
    exact ⟨fun a => ⟨congrArg (Memory.read? · a) hmem, State.slotByte_congr hmem hleaves.epoch a⟩, hwc, hseq, htotal,
      hleaves.cfg⟩
  · exact absurd hreq hnotSensor

/-- Settles O37: only a step of the burst controller could end the stall, and none of its steps is enabled or
awaited. -/
theorem onlyResetEndsTheThresholdStall : Obligations.OnlyResetEndsTheThresholdStall := by
  intro s t hstall hnoReset hstep
  obtain ⟨now, rest, hleaves⟩ := step_leaves_of_noReset hnoReset hstep
  exact hleaves.stalled hstall

end Sys2Proof.Machine
end

section
/-! SUPPORT. The outcomes of single requests and internal steps in the statements' terms (R97, R98, R120 to R122,
R131 to R136, R142), and that every step answers (R20, R95, R96). -/

namespace Sys2Proof.Machine

/-! ## Requests while fatal -/

/-- While fatal an instruction that checks it leaves the HALTED answer, whatever its effect would be (R97, R169). -/
theorem State.unlessHalted_eq_halted {s : State} (hfatal : s.fatal = true) (t : State) :
    s.unlessHalted t = Spec.halted s := by
  rw [State.unlessHalted_eq_ite, if_pos hfatal]

/-- Settles O17: every other instruction checks FATAL before its effect. -/
theorem fatalStateRefusesRequests : Obligations.FatalStateRefusesRequests := by
  intro i s hfatal hgetMode hreadReg
  cases i with
  | getMode => exact absurd rfl hgetMode
  | readReg idx => exact absurd rfl (hreadReg idx)
  | setMode | setPower | linkConnect | linkDisconnect | linkSubscribe | linkUnit | sensorOk | sensorErr | txOk | txFail
  | tick | paceDone => exact congrArg Host.Outcome.next (State.unlessHalted_eq_halted hfatal _)

/-! ## The assertions of SENSOR_OK -/

/-- Above `CAP` the sample is neither dropped nor stored (R121, R165). -/
theorem State.acceptSample_of_over {s : State} (hover : s.cfg.cap < s.occ.toNat) (x y z : U16) :
    s.acceptSample x y z = .fatal .cursorInvariant := by
  obtain ⟨hfull, -⟩ | ⟨hroom, -⟩ | ⟨hroom, -⟩ | ⟨-, he⟩ | ⟨hroom, -⟩ := s.acceptSample_cases x y z
  case inr.inr.inr.inl => exact he
  all_goals omega

/-- A push that reaches THRESH posts a wake, for which there must be room (R122, R164). -/
theorem State.acceptSample_of_signal_full {s : State} (hroom : s.occ.toNat < s.cfg.cap)
    (hedge : s.occ.toNat + 1 = s.cfg.thresh) (hfull : s.burstPend = 0xFFFF) (x y z : U16) :
    s.acceptSample x y z = .fatal .burstSignalOverflow := by
  obtain ⟨hcap, -⟩ | ⟨-, hbelow, -⟩ | ⟨-, -, hpend, -⟩ | ⟨hover, -⟩ | ⟨-, -, -, he⟩ := s.acceptSample_cases x y z
  · omega
  · exact absurd hedge hbelow
  · exact absurd hfull hpend
  · omega
  · exact he

/-- Settles O12: each assertion raises its cause, which leaves the fault on the state before the step. -/
theorem sensorOkAssertionsArePrecise : Obligations.SensorOkAssertionsArePrecise := by
  intro s x y z hrun hwait
  rw [exec_sensorOk_of_wait hrun hwait]
  refine ⟨fun hover => ?_, fun hroom hedge hpend => ?_⟩
  · rw [State.acceptSample_of_over hover, Attempt.orFatal_fatal_eq_raised]
    rfl
  · have hfull : s.burstPend = 0xFFFF := BitVec.eq_of_toNat_eq hpend
    rw [State.acceptSample_of_signal_full hroom hedge hfull, Attempt.orFatal_fatal_eq_raised]
    rfl

/-! ## The end of an attempt -/

/-- `Finish` in the statements' terms (R136). -/
theorem State.finished_eq_finishedBurst (s : State) (aborted : Bool) (i : Nat) :
    s.finished aborted i = Spec.finishedBurst s aborted i := by
  have hcount : (if aborted then s.abortCnt + 1 else s.abortCnt) = s.abortCnt + BitVec.ofNat 32 aborted.toNat := by
    cases aborted
    · exact (BitVec.add_zero s.abortCnt).symm
    · rfl
  simp only [State.finished, Spec.finishedBurst, hcount]

/-- `Finish` consumes the samples attempted where they are there (R136). -/
theorem State.finish_of_fit {s : State} {i : Nat} (hfit : i * s.cfg.spp ≤ s.occ.toNat) (aborted : Bool) :
    s.finish aborted i = .done (Spec.finishedBurst s aborted i) := by
  obtain ⟨-, he⟩ | ⟨hover, -⟩ := s.finish_cases aborted i
  · rw [he, State.finished_eq_finishedBurst]
  · omega

/-- `Finish` asserts that they are there (R112, R165). -/
theorem State.finish_of_over {s : State} {i : Nat} (hover : s.occ.toNat < i * s.cfg.spp) (aborted : Bool) :
    s.finish aborted i = .fatal .cursorInvariant := by
  obtain ⟨hfit, -⟩ | ⟨-, he⟩ := s.finish_cases aborted i
  · omega
  · exact he

/-! ## The transport's results -/

/-- A result that is awaited is counted, and the attempt is over (R132, R133). -/
theorem exec_txResult_of_txw {s : State} (hrun : s.fatal = false) (htxw : s.bstate = .txw) (ok : Bool) :
    exec (txResult ok) s = .next ((s.counted ok).afterAttempt.orFatal s) := by
  cases ok with
  | true => simp only [txResult, cond_true, exec, execTxOk, State.unlessHalted_running hrun, if_pos htxw]; rfl
  | false => simp only [txResult, cond_false, exec, execTxFail, State.unlessHalted_running hrun, if_pos htxw]; rfl

/-- With a packet left the burst goes on (R134). -/
theorem State.afterAttempt_of_more {s : State} (hmore : s.pktI + 1 ≠ s.pktN) :
    s.afterAttempt = .done (Spec.betweenPackets s) := by
  obtain ⟨hlast, -⟩ | ⟨-, hmode, he⟩ | ⟨-, hmode, he⟩ := s.afterAttempt_cases
  · exact absurd hlast hmore
  · simp [he, Spec.betweenPackets, hmode]
  · simp [he, Spec.betweenPackets, hmode]

/-- The last attempt of a burst, counted (R134). -/
def State.countedLast (s : State) (ok : Bool) : State := { s.counted ok with pktI := s.pktN }

theorem State.attempted_eq_countedLast {s : State} (hlast : s.pktI + 1 = s.pktN) (ok : Bool) :
    s.attempted ok = s.countedLast ok := by
  rw [State.attempted, State.countedLast, hlast]

/-- With none left the burst finishes (R134). -/
theorem State.afterAttempt_of_last {s : State} (hlast : s.pktI + 1 = s.pktN) (ok : Bool) :
    (s.counted ok).afterAttempt = (s.countedLast ok).finish false s.pktN.toNat := by
  obtain ⟨-, he⟩ | ⟨hmore, -⟩ | ⟨hmore, -⟩ := (s.counted ok).afterAttempt_cases
  · rw [← State.attempted_eq_countedLast hlast, ← hlast]
    exact he
  · exact absurd hlast hmore
  · exact absurd hlast hmore

theorem exec_txResult_of_more {s : State} (hrun : s.fatal = false) (htxw : s.bstate = .txw)
    (hmore : s.pktI + 1 ≠ s.pktN) (ok : Bool) :
    exec (txResult ok) s = .next (Spec.answering (Spec.betweenPackets (s.counted ok)) 0 0) := by
  have hattempt : (s.counted ok).afterAttempt = .done (Spec.betweenPackets (s.counted ok)) :=
    State.afterAttempt_of_more hmore
  rw [exec_txResult_of_txw hrun htxw, hattempt, Attempt.orFatal_done, State.respond_eq_answering]
  rfl

theorem exec_txResult_of_last {s : State} (hrun : s.fatal = false) (htxw : s.bstate = .txw)
    (hlast : s.pktI + 1 = s.pktN) (hfit : s.pktN.toNat * s.cfg.spp ≤ s.occ.toNat) (ok : Bool) :
    exec (txResult ok) s =
      .next (Spec.answering (Spec.finishedBurst (s.countedLast ok) false s.pktN.toNat) 0 0) := by
  have hattempt : (s.counted ok).afterAttempt = .done (Spec.finishedBurst (s.countedLast ok) false s.pktN.toNat) :=
    (State.afterAttempt_of_last hlast ok).trans (State.finish_of_fit (s := s.countedLast ok) hfit false)
  rw [exec_txResult_of_txw hrun htxw, hattempt, Attempt.orFatal_done, State.respond_eq_answering]
  rfl

theorem exec_txResult_of_over {s : State} (hrun : s.fatal = false) (htxw : s.bstate = .txw)
    (hlast : s.pktI + 1 = s.pktN) (hover : s.occ.toNat < s.pktN.toNat * s.cfg.spp) (ok : Bool) :
    exec (txResult ok) s = .next (Spec.raised s 3) := by
  have hattempt : (s.counted ok).afterAttempt = .fatal .cursorInvariant :=
    (State.afterAttempt_of_last hlast ok).trans (State.finish_of_over (s := s.countedLast ok) hover false)
  rw [exec_txResult_of_txw hrun htxw, hattempt, Attempt.orFatal_fatal_eq_raised]
  rfl

/-- Settles O13: both results go on alike, each with its own counter. -/
theorem txResultGoesOnWithTheBurst : Obligations.TxResultGoesOnWithTheBurst := fun _ hrun htxw hmore =>
  ⟨exec_txResult_of_more hrun htxw hmore true, exec_txResult_of_more hrun htxw hmore false⟩

/-- Settles O14: both results finish alike, each with its own counter, or meet the assertion of Advance. -/
theorem txResultFinishesTheBurst : Obligations.TxResultFinishesTheBurst := fun _ hrun htxw hlast =>
  ⟨fun hfit => ⟨exec_txResult_of_last hrun htxw hlast hfit true, exec_txResult_of_last hrun htxw hlast hfit false⟩,
    fun hover => ⟨exec_txResult_of_over hrun htxw hlast hover true, exec_txResult_of_over hrun htxw hlast hover false⟩⟩

/-! ## Internal steps -/

/-- An internal step that is not enabled is not taken (R98). -/
theorem runInternal_of_disabled {u : InternalStep} {s : State} (h : ¬s.enabled u = true) : runInternal u s = .next s := by
  rw [runInternal, if_neg h]

/-- Settles O24: each of the conditions contradicts the enabling of its step. -/
theorem disabledInternalStepsDoNothing : Obligations.DisabledInternalStepsDoNothing := by
  intro s u now rest hsched hdisabled
  have hnot : ¬(s.beginStep now rest).enabled u = true := by
    intro henabled
    rw [State.beginStep_enabled] at henabled
    obtain hfatal | ⟨rfl, hfetch⟩ | ⟨rfl, hwake⟩ | ⟨rfl, hpacket⟩ := hdisabled
    · exact absurd (hfatal.symm.trans (State.fatal_eq_false_of_enabled henabled)) nofun
    · obtain ⟨-, hidle, hpend⟩ := s.fetchEnabled_iff.1 henabled
      exact hfetch.elim (fun hwait => absurd (hidle.symm.trans hwait) nofun) hpend
    · obtain ⟨-, hidle, hpend⟩ := s.wakeEnabled_iff.1 henabled
      exact hwake.elim (absurd hidle) hpend
    · exact hpacket (s.packetEnabled_iff.1 henabled).2
  rw [step_internal hsched, runInternal_of_disabled hnot]
  rfl

/-- A BURST_PACKET that is enabled is taken (R98, R131). -/
theorem step_burstPacket {s : State} {now : U16} {rest : List Stimulus}
    (hsched : s.schedule = .internal .burstPacket now :: rest) (hrun : s.fatal = false) (hpkt : s.bstate = .pkt) :
    step s = .next (s.beginStep now rest).burstPacket := by
  have henabled : (s.beginStep now rest).enabled .burstPacket = true :=
    (s.beginStep now rest).packetEnabled_iff.2 ⟨hrun, hpkt⟩
  rw [step_internal hsched, runInternal_of_enabled henabled]
  rfl

/-- Settles O23: with no peer the packet step is `Finish(aborted, PKT_I)`, with no response where it raises. -/
theorem burstPacketAbortsWithoutAPeer : Obligations.BurstPacketAbortsWithoutAPeer := by
  intro s now rest hsched hrun hpkt hconn
  rw [step_burstPacket hsched hrun hpkt]
  refine congrArg Host.Outcome.next ?_
  obtain ⟨hlive, -⟩ | ⟨-, he⟩ := (s.beginStep now rest).burstPacket_cases
  · exact absurd (hconn.symm.trans hlive) nofun
  rw [he]
  by_cases hfit : s.pktI.toNat * s.cfg.spp ≤ s.occ.toNat
  · have hdone := State.finish_of_fit (s := s.beginStep now rest) hfit true
    rw [if_pos hfit]
    exact congrArg (Attempt.orFatalInternal · _) hdone
  · have hfatal := State.finish_of_over (s := s.beginStep now rest) (Nat.lt_of_not_le hfit) true
    rw [if_neg hfit]
    exact congrArg (Attempt.orFatalInternal · _) hfatal

/-- Record `j` of the present packet is in the slot `PKT_I*SPP + j` samples after RC (R104, R131, R142). -/
theorem State.index_packetBase_add (s : State) (j : Nat) :
    Config.index s.cfg (s.packetBase + BitVec.ofNat 32 j) =
      (s.rc.toNat + s.pktI.toNat * s.cfg.spp + j) % 2 ^ s.cfg.capLog := by
  rw [State.packetBase, BitVec.add_assoc, ← BitVec.ofNat_add, Config.index_add_ofNat, Nat.add_assoc]

/-- The bytes of the present packet, with the slots of its samples written out (R141 to R145). -/
theorem State.bodyAt_packetBase (s : State) :
    s.bodyAt s.packetBase s.burstId = s.burstId :: (List.range s.cfg.spp).flatMap fun j =>
      (s.slotRead ((s.rc.toNat + s.pktI.toNat * s.cfg.spp + j) % 2 ^ s.cfg.capLog)).serialise := by
  simp only [State.bodyAt, packetBody, State.slice, List.flatMap_map, State.index_packetBase_add]

/-- Settles O22: with a peer the packet step sends the frame of the present packet's body. -/
theorem burstPacketSendsTheNextSamples : Obligations.BurstPacketSendsTheNextSamples := by
  intro s now rest hsched hrun hpkt hconn body
  have hbody : s.bodyAt s.packetBase s.burstId = body := s.bodyAt_packetBase
  have hframe : s.buildPacket s.packetBase s.burstId =
      body ++ [BitVec.ofNat 8 (crc16 body).toNat, BitVec.ofNat 8 ((crc16 body).toNat / 256)] := by
    rw [State.buildPacket_eq_frame, hbody, frame, loByte_eq_ofNat, hiByte_eq_ofNat]
  rw [step_burstPacket hsched hrun hpkt, ← hframe]
  obtain ⟨-, he⟩ | ⟨hlost, -⟩ := (s.beginStep now rest).burstPacket_cases
  · exact congrArg Host.Outcome.next he
  · exact absurd (hconn.symm.trans hlost) nofun

/-! ## Request words and responses -/

/-- Settles O18: the step handles the word, whose decoded instruction runs. -/
theorem stepRunsTheDecodedRequest : Obligations.StepRunsTheDecodedRequest := by
  intro s w now rest i hsched hdecode _
  rw [step_request hsched, handleRequest, hdecode]
  rfl

theorem exec_total (i : Instr) (s : State) : ∃ t, exec i s = .next t := by
  cases i with
  | readReg idx =>
    cases hidx : ViewReg.ofIndex idx with
    | some r => exact ⟨_, exec_readReg_of_listed hidx s⟩
    | none => exact ⟨_, exec_readReg_of_reserved hidx s⟩
  | _ => exact ⟨_, rfl⟩

theorem handleRequest_total (w : Word64) (s : State) : ∃ t, handleRequest w s = .next t := by
  cases hd : decode w with
  | instr i =>
    obtain ⟨t, ht⟩ := exec_total i s
    exact ⟨t, by rw [handleRequest, hd]; exact ht⟩
  | illegal e => exact ⟨_, handleRequest_of_decode_eq_illegal hd s⟩

/-- A response word is on the port (R95). -/
def State.Responded (t : State) : Prop := ∃ c d, t.resp = some (responseWord c d)

theorem Attempt.responded_orFatal (a : Attempt) (s : State) : (a.orFatal s).Responded := by
  cases a
  · exact ⟨_, _, rfl⟩
  · exact ⟨_, _, rfl⟩

theorem State.Effect.responded {s t : State} {i : Instr} (h : s.Effect i t) : t.Responded := by
  cases h with
  | sensorOk | txOk | txFail | tick => exact Attempt.responded_orFatal _ _
  | _ => exact ⟨_, _, rfl⟩

/-- Every request word is answered, an illegal one included (R95, R97). -/
theorem responded_of_handleRequest {w : Word64} {s t : State} (h : handleRequest w s = .next t) : t.Responded := by
  obtain ⟨i, -, hexec⟩ | ⟨e, -, rfl⟩ := handleRequest_cases h
  · obtain ⟨c, d, rfl⟩ | ⟨-, heffect⟩ := requested_of_exec hexec
    · exact ⟨c, d, rfl⟩
    · exact heffect.responded
  · exact ⟨_, _, rfl⟩

/-- The low half of a response word is its CODE, one of the six (R95, R96). -/
theorem responseWord_mod_le (c : RespCode) (d : U32) : (responseWord c d).toNat % 2 ^ 32 ≤ 5 := by
  have hcode : c.code.toNat ≤ 5 := by cases c <;> decide
  rw [responseWord_eq_ofNat, BitVec.toNat_ofNat]
  omega

/-- An internal step answers no word (R98, R168). -/
theorem State.Leaves.resp_of_internal {s t : State} {u : InternalStep} (h : s.Leaves none (some u) t) :
    t.resp = s.resp := by
  cases h with
  | _ => rfl

theorem State.internalEffect_resp {s : State} {u : InternalStep} (henabled : s.enabled u = true) :
    (s.internalEffect u).resp = s.resp := (State.leaves_internalEffect henabled).resp_of_internal

/-- An internal step that is scheduled leaves a next state with no response word, enabled or not (R98). -/
theorem exists_runInternal (u : InternalStep) (s : State) : ∃ t, runInternal u s = .next t ∧ t.resp = s.resp := by
  by_cases henabled : s.enabled u = true
  · exact ⟨_, runInternal_of_enabled henabled, State.internalEffect_resp henabled⟩
  · exact ⟨_, runInternal_of_disabled henabled, rfl⟩

/-- Settles O39: a request word is handled and answered; a step on anything else leaves the response port clear. -/
theorem everyRequestGetsOneResponse : Obligations.EveryRequestGetsOneResponse := by
  intro s
  match hsched : s.schedule with
  | [] =>
    exact ⟨_, step_nil hsched, by simp [State.nextWord, hsched], nofun⟩
  | .request w now :: rest =>
    obtain ⟨t, ht⟩ := handleRequest_total w (s.beginStep now rest)
    obtain ⟨c, d, hresp⟩ := responded_of_handleRequest ht
    refine ⟨t, (step_request hsched).trans ht, by simp [State.nextWord, hsched, hresp], fun r hr => ?_⟩
    obtain rfl : responseWord c d = r := Option.some.inj (hresp.symm.trans hr)
    exact responseWord_mod_le c d
  | .internal u now :: rest =>
    obtain ⟨t, ht, hresp⟩ := exists_runInternal u (s.beginStep now rest)
    have hnone : t.resp = none := hresp
    refine ⟨t, (step_internal hsched).trans ht, by simp [State.nextWord, hsched, hnone], fun r hr => ?_⟩
    exact absurd (hnone.symm.trans hr) nofun
  | .reset :: rest =>
    exact ⟨_, step_reset hsched, by simp [State.nextWord, hsched, State.assertReset, State.resetOf], nofun⟩

/-- Settles O26: CFG-D, as every configuration, is built with the values of R64. -/
theorem resetStateIsTheDefaultInstance : Obligations.ResetStateIsTheDefaultInstance :=
  ⟨State.resetOf_resetValues Config.cfgD, rfl, rfl, rfl, rfl, rfl, rfl⟩

end Sys2Proof.Machine
end

section
/-! SUPPORT. The eager schedule (R103) runs out of internal steps: each one that it takes makes a bound on the steps still
to come smaller. -/

namespace Sys2Proof.Machine

/-! ## The choice of the eager schedule -/

/-- The eager schedule takes only a step that is enabled. -/
theorem State.enabled_of_eagerChoice {s : State} {u : InternalStep} (h : s.eagerChoice = some u) :
    s.enabled u = true := by
  unfold State.eagerChoice at h
  split_ifs at h with hfetch hwake hpacket <;> cases h
  · exact hfetch
  · exact hwake
  · exact hpacket

/-- Where it takes none, none is enabled. -/
theorem State.quiescent_of_eagerChoice {s : State} (h : s.eagerChoice = none) : s.quiescent = true := by
  unfold State.eagerChoice at h
  split_ifs at h with hfetch hwake hpacket
  simp [State.quiescent, hfetch, hwake, hpacket]

/-! ## The steps still to come -/

/-- The burst controller's internal steps still to come, at most: a wake each, and one packet step, which there is
without a further wake in B_PKT and which a wake needs a live peer to lead to (R127, R131). -/
def State.burstStepsLeft (s : State) : Nat :=
  match s.bstate with
  | .idle => s.burstPend.toNat + s.conn.toNat
  | .pkt => s.burstPend.toNat + 1
  | .txw | .pace => 0

/-- The producer's: one fetch, which leaves the producer waiting (R119). -/
def State.fetchesLeft (s : State) : Nat := if s.pstate = .idle then 1 else 0

/-- All internal steps still to come, at most: there is none while fatal (R98). -/
def State.internalStepsLeft (s : State) : Nat := if s.fatal then 0 else s.fetchesLeft + s.burstStepsLeft

theorem State.internalStepsLeft_of_running {s : State} (hrun : s.fatal = false) :
    s.internalStepsLeft = s.fetchesLeft + s.burstStepsLeft := by
  rw [State.internalStepsLeft, hrun, if_neg Bool.false_ne_true]

theorem State.internalStepsLeft_of_fatal {s : State} (hfatal : s.fatal = true) : s.internalStepsLeft = 0 :=
  if_pos hfatal

theorem State.internalStepsLeft_le_add (s : State) : s.internalStepsLeft ≤ s.fetchesLeft + s.burstStepsLeft := by
  unfold State.internalStepsLeft
  split
  · exact Nat.zero_le _
  · exact Nat.le_refl _

theorem State.burstStepsLeft_of_idle {s : State} (h : s.bstate = .idle) :
    s.burstStepsLeft = s.burstPend.toNat + s.conn.toNat := by rw [State.burstStepsLeft, h]

theorem State.burstStepsLeft_of_pkt {s : State} (h : s.bstate = .pkt) :
    s.burstStepsLeft = s.burstPend.toNat + 1 := by rw [State.burstStepsLeft, h]

theorem State.internalStepsLeft_le (s : State) : s.internalStepsLeft ≤ s.burstPend.toNat + 2 := by
  have hfetch : s.fetchesLeft ≤ 1 := by unfold State.fetchesLeft; split <;> omega
  have hburst : s.burstStepsLeft ≤ s.burstPend.toNat + 1 := by
    have hconn := s.conn.toNat_lt
    unfold State.burstStepsLeft
    split <;> omega
  have hsum := s.internalStepsLeft_le_add
  omega

/-- A step of the burst controller's makes the bound smaller if it makes the controller's part smaller. -/
theorem State.internalStepsLeft_lt {s t : State} (hrun : s.fatal = false) (hpstate : t.pstate = s.pstate)
    (hburst : t.burstStepsLeft < s.burstStepsLeft) : t.internalStepsLeft < s.internalStepsLeft := by
  have hfetch : t.fetchesLeft = s.fetchesLeft := by rw [State.fetchesLeft, State.fetchesLeft, hpstate]
  have hsum := t.internalStepsLeft_le_add
  rw [State.internalStepsLeft_of_running hrun]
  omega

/-- What a wake does to the terms of the bound: it takes one wake, and it starts a burst only with a live peer (R127). -/
theorem State.burstWake_bound (s : State) :
    s.burstWake.pstate = s.pstate ∧ s.burstWake.burstPend = s.burstPend - 1 ∧ s.burstWake.conn = s.conn ∧
    (s.burstWake.bstate = s.bstate ∨ (s.burstWake.bstate = .pkt ∧ s.conn = true)) := by
  obtain ⟨-, he⟩ | ⟨-, -, he⟩ | ⟨-, -, -, he⟩ | ⟨hlink, -, -, he⟩ := s.burstWake_cases <;> rw [he]
  · exact ⟨rfl, rfl, rfl, .inl rfl⟩
  · exact ⟨rfl, rfl, rfl, .inl rfl⟩
  · exact ⟨rfl, rfl, rfl, .inl rfl⟩
  · exact ⟨rfl, rfl, rfl, .inr ⟨rfl, (s.linkReady_iff.1 hlink).2⟩⟩

theorem State.internalStepsLeft_burstWake {s : State} (henabled : s.wakeEnabled = true) :
    s.burstWake.internalStepsLeft < s.internalStepsLeft := by
  obtain ⟨hrun, hidle, hpend⟩ := s.wakeEnabled_iff.1 henabled
  obtain ⟨hpstate, htaken, hconn, hbstate⟩ := s.burstWake_bound
  have hless : (s.burstPend - 1).toNat < s.burstPend.toNat := by bv_omega
  refine State.internalStepsLeft_lt hrun hpstate ?_
  rw [State.burstStepsLeft_of_idle hidle]
  obtain hkept | ⟨hpkt, hlive⟩ := hbstate
  · rw [State.burstStepsLeft_of_idle (hkept.trans hidle), htaken, hconn]
    omega
  · rw [State.burstStepsLeft_of_pkt hpkt, htaken, hlive, Bool.toNat_true]
    omega

/-- A packet step hands its packet over and waits, or ends the burst where there is no peer, or is fatal (R131). -/
theorem State.internalStepsLeft_burstPacket {s : State} (henabled : s.packetEnabled = true) :
    s.burstPacket.internalStepsLeft < s.internalStepsLeft := by
  obtain ⟨hrun, hpkt⟩ := s.packetEnabled_iff.1 henabled
  have hleft := State.burstStepsLeft_of_pkt hpkt
  obtain ⟨-, he⟩ | ⟨hconn, he⟩ := s.burstPacket_cases
  · rw [he]
    exact State.internalStepsLeft_lt hrun rfl (hleft ▸ Nat.succ_pos _)
  · obtain ⟨-, hf⟩ | ⟨-, hf⟩ := s.finish_cases true s.pktI.toNat
    · rw [he, hf]
      refine State.internalStepsLeft_lt hrun rfl ?_
      have hafter : (s.finished true s.pktI.toNat).burstStepsLeft = s.burstPend.toNat + s.conn.toNat :=
        State.burstStepsLeft_of_idle rfl
      rw [Attempt.orFatalInternal_done, hafter, hleft, hconn, Bool.toNat_false]
      omega
    · rw [he, hf, Attempt.orFatalInternal_fatal, State.internalStepsLeft_of_fatal rfl,
        State.internalStepsLeft_of_running hrun]
      omega

/-- A fetch leaves the producer waiting, and the burst controller as it is (R119). -/
theorem State.internalStepsLeft_producerFetch {s : State} (henabled : s.fetchEnabled = true) :
    s.producerFetch.internalStepsLeft < s.internalStepsLeft := by
  obtain ⟨hrun, hidle, -⟩ := s.fetchEnabled_iff.1 henabled
  have hbefore : s.fetchesLeft = 1 := if_pos hidle
  have hafter : s.producerFetch.internalStepsLeft ≤ 0 + s.burstStepsLeft := s.producerFetch.internalStepsLeft_le_add
  rw [State.internalStepsLeft_of_running hrun, hbefore]
  omega

/-- Each internal step that is taken makes the bound smaller. -/
theorem State.internalStepsLeft_internalEffect {s : State} {u : InternalStep} (henabled : s.enabled u = true) :
    (s.internalEffect u).internalStepsLeft < s.internalStepsLeft := by
  cases u with
  | producerFetch => exact State.internalStepsLeft_producerFetch henabled
  | burstWake => exact State.internalStepsLeft_burstWake henabled
  | burstPacket => exact State.internalStepsLeft_burstPacket henabled

/-- With fuel for the steps still to come, the schedule ends where none is enabled (R103). -/
theorem State.quiescent_settle {fuel : Nat} {s : State} (hfuel : s.internalStepsLeft ≤ fuel) :
    (State.settle fuel s).1.quiescent = true := by
  induction fuel generalizing s with
  | zero =>
    cases hchoice : s.eagerChoice with
    | none => exact State.quiescent_of_eagerChoice hchoice
    | some u =>
      have hless := State.internalStepsLeft_internalEffect (State.enabled_of_eagerChoice hchoice)
      omega
  | succ fuel ih =>
    rw [State.settle]
    cases hchoice : s.eagerChoice with
    | none => exact State.quiescent_of_eagerChoice hchoice
    | some u =>
      have henabled : (s.beginStep s.timeNow s.schedule).enabled u = true :=
        (s.beginStep_enabled _ _ u).trans (State.enabled_of_eagerChoice hchoice)
      have hless := State.internalStepsLeft_internalEffect henabled
      exact ih (Nat.le_of_lt_succ (hless.trans_le hfuel))

/-- Settles O38: the bound is at most `BURST_PEND + 2` at the start. -/
theorem eagerScheduleReachesQuiescence : Obligations.EagerScheduleReachesQuiescence :=
  fun s => State.quiescent_settle s.internalStepsLeft_le

end Sys2Proof.Machine
end

section
/-! SUPPORT. The CRC (R144): its shifts and its bytes are injective, so two bodies that differ in one byte never meet
again in their running CRC. -/

namespace Sys2Proof.Machine

/-- The polynomial's low bit marks the shifts that added it, so the bit shifted out is not lost (R144). -/
theorem crcShift_getLsbD_zero (c : U16) : (crcShift c).getLsbD 0 = c.msb := by
  cases h : c.msb <;> simp [crcShift, h]

/-- A left shift by one loses the highest bit only. -/
theorem eq_of_shiftLeft_one_eq {c d : U16} (hshift : c <<< 1 = d <<< 1) (hmsb : c.msb = d.msb) : c = d := by
  apply BitVec.eq_of_getLsbD_eq
  intro i hi
  by_cases htop : i = 15
  · subst htop
    exact hmsb
  · have hbit := congrArg (·.getLsbD (i + 1)) hshift
    have hlt : i + 1 < 16 := by omega
    simpa [hlt, hi] using hbit

theorem crcShift_injective : Function.Injective crcShift := by
  intro c d h
  have hmsb : c.msb = d.msb := by rw [← crcShift_getLsbD_zero, h, crcShift_getLsbD_zero]
  refine eq_of_shiftLeft_one_eq ?_ hmsb
  rw [crcShift, crcShift, ← hmsb] at h
  split at h
  · exact BitVec.xor_left_inj _ |>.1 h
  · exact h

theorem crcShifts_injective (n : Nat) : Function.Injective (crcShifts n) := by
  induction n with
  | zero => exact Function.injective_id
  | succ n ih => exact ih.comp crcShift_injective

theorem crcByte_injective_left (b : Byte) : Function.Injective (crcByte · b) :=
  (crcShifts_injective 8).comp fun _ _ h => (BitVec.xor_left_inj _).1 h

/-- A byte enters the CRC whole, at its high end. -/
theorem crcByte_injective_right (c : U16) : Function.Injective (crcByte c) := by
  refine (crcShifts_injective 8).comp fun a b h => ?_
  have hhigh : a.setWidth 16 <<< 8 = b.setWidth 16 <<< 8 := (BitVec.xor_right_inj _).1 h
  apply BitVec.eq_of_toNat_eq
  have hnum := congrArg BitVec.toNat hhigh
  simp only [BitVec.toNat_shiftLeft, BitVec.toNat_setWidth, Nat.shiftLeft_eq] at hnum
  omega

/-- The same bytes take different running CRCs to different ones. -/
theorem crcFrom_injective (bytes : List Byte) : Function.Injective (crcFrom · bytes) := by
  induction bytes with
  | nil => exact Function.injective_id
  | cons b bytes ih => exact ih.comp (crcByte_injective_left b)

theorem crc16_append_cons (before after : List Byte) (b : Byte) :
    crc16 (before ++ b :: after) = crcFrom (crcByte (crc16 before) b) after := by
  rw [crc16, crcFrom, List.foldl_append]
  rfl

/-- Bodies that differ in one byte have different CRCs. -/
theorem crc16_ne_of_byte_ne (before after : List Byte) {a b : Byte} (h : a ≠ b) :
    crc16 (before ++ a :: after) ≠ crc16 (before ++ b :: after) := by
  rw [crc16_append_cons, crc16_append_cons]
  exact (crcFrom_injective after).ne ((crcByte_injective_right _).ne h)

/-- A bit that is flipped makes another byte. -/
theorem xor_one_shiftLeft_ne (b : Byte) {i : Nat} (hi : i < 8) : b ^^^ (1#8 <<< i) ≠ b := by
  intro h
  have hbit := congrArg (·.getLsbD i) h
  simp [hi] at hbit

/-- Settles O56: the flipped byte is another byte, and no bytes after it bring the two running CRCs together. -/
theorem crcDetectsEverySingleBitFlip : Obligations.CrcDetectsEverySingleBitFlip :=
  fun before after b _ hi => crc16_ne_of_byte_ne before after (xor_one_shiftLeft_ne b hi)

/-- Settles O55, by running the CRC over the three bodies. -/
theorem crcCheckValues : Obligations.CrcCheckValues := by
  refine ⟨?_, ?_, ?_⟩
  · decide +kernel
  · decide +kernel
  · decide +kernel

end Sys2Proof.Machine
end
